-- ==== Sys2Proof/Word.lean ====
section
/-! DEFINITION. The machine's word types (00_scope.md R5, R6): bytes, 16-bit addresses, and the 64-bit counters. -/

namespace Sys2Proof

/-- `u8`: a register, a memory cell, an operand byte. -/
abbrev Byte := BitVec 8

/-- `u16`: an address, the program counter. -/
abbrev Word := BitVec 16

/-- `u64`: a counter that wraps modulo 2^64 (10_state.md R20, R21). -/
abbrev Counter := BitVec 64

end Sys2Proof
end

