-- ==== Sys2Proof/Config.lean ====
section
/-! DEFINITION. The parameters of the model (00_scope.md R5). An OPEN parameter is a constant without a body: nothing is known of
it but its type, so what is proved holds for every value. A parameter the spec fixes for this block has its value. The
cycle table is an argument with a default. -/

namespace Sys2Proof

/-- The results of a decimal-mode addition or subtraction: the byte and the flags C, Z, N, V (42_arithmetic_compare.md R162). -/
structure DecResult where
  r : Byte
  c : Bool
  z : Bool
  n : Bool
  v : Bool
  deriving DecidableEq, Repr, Inhabited

/-- Where the high byte of a zero-page pointer at 0x00FF comes from (40_step_and_addressing.md R129): `wrap16` from 0x0100, `wrap8`
from 0x0000. -/
inductive ZpPointerWrap where
  | wrap16
  | wrap8
  deriving DecidableEq, Repr, Inhabited

/-- A table for the parameter `BaseCycles` (40_step_and_addressing.md R119): opcode byte to cycle count. It is an argument of
`execWith`, `stepWith` and `run`; its default is `baseCycles` of Decode.lean, the column of 30_encoding.md R75 (log 10). -/
abbrev BaseCycles := Byte → Nat

namespace Config

/-- OPEN: `DecAdc(a, m, c)`, the results of ADC when P.D = 1 (42_arithmetic_compare.md R162). Free (log 9). -/
opaque decAdc : Byte → Byte → Bool → DecResult

/-- OPEN: `DecSbc(a, m, c)`, the results of SBC when P.D = 1 (42_arithmetic_compare.md R162). Free (log 9). -/
opaque decSbc : Byte → Byte → Bool → DecResult

/-- OPEN: `ZP_POINTER_WRAP` (40_step_and_addressing.md R129). Free, one of two values (log 8). -/
opaque zpPointerWrap : ZpPointerWrap

/-- `TXS_UPDATES_NZ`, fixed `true` for this block (41_load_transfer_logic_store.md R151, log 11). -/
def txsUpdatesNz : Bool := true

/-- `JMP_INDIRECT_PAGE_WRAP`, fixed `true` for this block (40_step_and_addressing.md R115, log 12). -/
def jmpIndirectPageWrap : Bool := true

end Config

end Sys2Proof
end

