-- ==== Sys2Proof/Machine/Bits.lean ====
section
/-! DEFINITION. The byte-order, extension and bit helpers of 00_scope.md R6. -/

namespace Sys2Proof

/-- `lo8(w) = w[7:0]`. -/
def lo8 (w : Word) : Byte := w.extractLsb' 0 8

/-- `hi8(w) = w[15:8]`, the page of an address. -/
def hi8 (w : Word) : Byte := w.extractLsb' 8 8

/-- `hi ++ lo`, the more significant byte first. -/
def joinBytes (hi lo : Byte) : Word := hi ++ lo

/-- `zext_16(b)`: the same number as a 16-bit value. -/
def zext16 (b : Byte) : Word := b.setWidth 16

/-- `sext_16(b)`: `b` read as a signed 8-bit value, as a 16-bit value. -/
def sext16 (b : Byte) : Word := b.signExtend 16

/-- `signed8(b)`: the integer from -128 to 127 that `b` encodes. -/
def signed8 (b : Byte) : Int := b.toInt

/-- A flag as the number 0 or 1. -/
def bit01 (b : Bool) : Nat := if b then 1 else 0

end Sys2Proof
end

