-- ==== Sys2Proof/Syntax.lean ====
section
/-! DEFINITION. The instruction set as syntax: the 13 addressing modes (30_encoding.md R71), the 56 mnemonics, and one
constructor of `Instr` for each of the 151 rows of the opcode table (30_encoding.md R75, spec/opcode_table.json). An operand
is the value the operand bytes spell (R72): `nn` or `disp` one byte, `addr`, `base` or `ptr` the word `hh ++ ll` (log 22). -/

namespace Sys2Proof

/-- The addressing-mode tags of 30_encoding.md R71. -/
inductive AddrMode where
  | imp | acc | imm | rel | zp | zpx | zpy | abs | abx | aby | ind | izx | izy
  deriving DecidableEq, Repr

/-- The 56 mnemonics (00_scope.md R1, 30_encoding.md R75). -/
inductive Mnemonic where
  | lda | ldx | ldy | and | ora | eor | tax | tay | txa | tya | tsx | txs | sta | stx
  | sty | adc | sbc | cmp | cpx | cpy | inc | dec | inx | iny | dex | dey | asl | lsr
  | rol | ror | bit | bcc | bcs | beq | bne | bmi | bpl | bvc | bvs | jmp | jsr | rts
  | pha | php | pla | plp | brk | rti | sec | clc | sei | cli | sed | cld | clv | nop
  deriving DecidableEq, Repr

/-- One constructor per row of the opcode table, named by the row's mnemonic and, where the mnemonic has several modes, the
mode tag. -/
inductive Instr where
  -- LDA, R140
  | ldaIzx (nn : Byte)
  | ldaZp (nn : Byte)
  | ldaImm (nn : Byte)
  | ldaAbs (addr : Word)
  | ldaIzy (nn : Byte)
  | ldaZpx (nn : Byte)
  | ldaAby (base : Word)
  | ldaAbx (base : Word)
  -- LDX, R141
  | ldxImm (nn : Byte)
  | ldxZp (nn : Byte)
  | ldxAbs (addr : Word)
  | ldxZpy (nn : Byte)
  | ldxAby (base : Word)
  -- LDY, R142
  | ldyImm (nn : Byte)
  | ldyZp (nn : Byte)
  | ldyAbs (addr : Word)
  | ldyZpx (nn : Byte)
  | ldyAbx (base : Word)
  -- AND, R143
  | andIzx (nn : Byte)
  | andZp (nn : Byte)
  | andImm (nn : Byte)
  | andAbs (addr : Word)
  | andIzy (nn : Byte)
  | andZpx (nn : Byte)
  | andAby (base : Word)
  | andAbx (base : Word)
  -- ORA, R144
  | oraIzx (nn : Byte)
  | oraZp (nn : Byte)
  | oraImm (nn : Byte)
  | oraAbs (addr : Word)
  | oraIzy (nn : Byte)
  | oraZpx (nn : Byte)
  | oraAby (base : Word)
  | oraAbx (base : Word)
  -- EOR, R145
  | eorIzx (nn : Byte)
  | eorZp (nn : Byte)
  | eorImm (nn : Byte)
  | eorAbs (addr : Word)
  | eorIzy (nn : Byte)
  | eorZpx (nn : Byte)
  | eorAby (base : Word)
  | eorAbx (base : Word)
  -- TAX, R146
  | tax
  -- TAY, R147
  | tay
  -- TXA, R148
  | txa
  -- TYA, R149
  | tya
  -- TSX, R150
  | tsx
  -- TXS, R151
  | txs
  -- STA, R152
  | staIzx (nn : Byte)
  | staZp (nn : Byte)
  | staAbs (addr : Word)
  | staIzy (nn : Byte)
  | staZpx (nn : Byte)
  | staAby (base : Word)
  | staAbx (base : Word)
  -- STX, R153
  | stxZp (nn : Byte)
  | stxAbs (addr : Word)
  | stxZpy (nn : Byte)
  -- STY, R154
  | styZp (nn : Byte)
  | styAbs (addr : Word)
  | styZpx (nn : Byte)
  -- ADC, R160
  | adcIzx (nn : Byte)
  | adcZp (nn : Byte)
  | adcImm (nn : Byte)
  | adcAbs (addr : Word)
  | adcIzy (nn : Byte)
  | adcZpx (nn : Byte)
  | adcAby (base : Word)
  | adcAbx (base : Word)
  -- SBC, R161
  | sbcIzx (nn : Byte)
  | sbcZp (nn : Byte)
  | sbcImm (nn : Byte)
  | sbcAbs (addr : Word)
  | sbcIzy (nn : Byte)
  | sbcZpx (nn : Byte)
  | sbcAby (base : Word)
  | sbcAbx (base : Word)
  -- CMP, R163
  | cmpIzx (nn : Byte)
  | cmpZp (nn : Byte)
  | cmpImm (nn : Byte)
  | cmpAbs (addr : Word)
  | cmpIzy (nn : Byte)
  | cmpZpx (nn : Byte)
  | cmpAby (base : Word)
  | cmpAbx (base : Word)
  -- CPX, R164
  | cpxImm (nn : Byte)
  | cpxZp (nn : Byte)
  | cpxAbs (addr : Word)
  -- CPY, R165
  | cpyImm (nn : Byte)
  | cpyZp (nn : Byte)
  | cpyAbs (addr : Word)
  -- INC, R170
  | incZp (nn : Byte)
  | incAbs (addr : Word)
  | incZpx (nn : Byte)
  | incAbx (base : Word)
  -- DEC, R171
  | decZp (nn : Byte)
  | decAbs (addr : Word)
  | decZpx (nn : Byte)
  | decAbx (base : Word)
  -- INX, R172
  | inx
  -- INY, R173
  | iny
  -- DEX, R174
  | dex
  -- DEY, R175
  | dey
  -- ASL, R176
  | aslZp (nn : Byte)
  | aslAcc
  | aslAbs (addr : Word)
  | aslZpx (nn : Byte)
  | aslAbx (base : Word)
  -- LSR, R177
  | lsrZp (nn : Byte)
  | lsrAcc
  | lsrAbs (addr : Word)
  | lsrZpx (nn : Byte)
  | lsrAbx (base : Word)
  -- ROL, R178
  | rolZp (nn : Byte)
  | rolAcc
  | rolAbs (addr : Word)
  | rolZpx (nn : Byte)
  | rolAbx (base : Word)
  -- ROR, R179
  | rorZp (nn : Byte)
  | rorAcc
  | rorAbs (addr : Word)
  | rorZpx (nn : Byte)
  | rorAbx (base : Word)
  -- BIT, R180
  | bitZp (nn : Byte)
  | bitAbs (addr : Word)
  -- BCC, R191
  | bcc (disp : Byte)
  -- BCS, R192
  | bcs (disp : Byte)
  -- BEQ, R193
  | beq (disp : Byte)
  -- BNE, R194
  | bne (disp : Byte)
  -- BMI, R195
  | bmi (disp : Byte)
  -- BPL, R196
  | bpl (disp : Byte)
  -- BVC, R197
  | bvc (disp : Byte)
  -- BVS, R198
  | bvs (disp : Byte)
  -- JMP, R199
  | jmpAbs (addr : Word)
  | jmpInd (ptr : Word)
  -- JSR, R200
  | jsr (addr : Word)
  -- RTS, R201
  | rts
  -- PHA, R210
  | pha
  -- PHP, R211
  | php
  -- PLA, R212
  | pla
  -- PLP, R213
  | plp
  -- BRK, R214
  | brk
  -- RTI, R215
  | rti
  -- SEC, R216
  | sec
  -- CLC, R217
  | clc
  -- SEI, R218
  | sei
  -- CLI, R219
  | cli
  -- SED, R220
  | sed
  -- CLD, R221
  | cld
  -- CLV, R222
  | clv
  -- NOP, R223
  | nop
  deriving DecidableEq, Repr

/-- The mnemonic of an instruction. -/
def Instr.mnemonic : Instr → Mnemonic
  | .ldaIzx _ | .ldaZp _ | .ldaImm _ | .ldaAbs _ | .ldaIzy _ | .ldaZpx _ | .ldaAby _ | .ldaAbx _ => .lda
  | .ldxImm _ | .ldxZp _ | .ldxAbs _ | .ldxZpy _ | .ldxAby _ => .ldx
  | .ldyImm _ | .ldyZp _ | .ldyAbs _ | .ldyZpx _ | .ldyAbx _ => .ldy
  | .andIzx _ | .andZp _ | .andImm _ | .andAbs _ | .andIzy _ | .andZpx _ | .andAby _ | .andAbx _ => .and
  | .oraIzx _ | .oraZp _ | .oraImm _ | .oraAbs _ | .oraIzy _ | .oraZpx _ | .oraAby _ | .oraAbx _ => .ora
  | .eorIzx _ | .eorZp _ | .eorImm _ | .eorAbs _ | .eorIzy _ | .eorZpx _ | .eorAby _ | .eorAbx _ => .eor
  | .tax => .tax
  | .tay => .tay
  | .txa => .txa
  | .tya => .tya
  | .tsx => .tsx
  | .txs => .txs
  | .staIzx _ | .staZp _ | .staAbs _ | .staIzy _ | .staZpx _ | .staAby _ | .staAbx _ => .sta
  | .stxZp _ | .stxAbs _ | .stxZpy _ => .stx
  | .styZp _ | .styAbs _ | .styZpx _ => .sty
  | .adcIzx _ | .adcZp _ | .adcImm _ | .adcAbs _ | .adcIzy _ | .adcZpx _ | .adcAby _ | .adcAbx _ => .adc
  | .sbcIzx _ | .sbcZp _ | .sbcImm _ | .sbcAbs _ | .sbcIzy _ | .sbcZpx _ | .sbcAby _ | .sbcAbx _ => .sbc
  | .cmpIzx _ | .cmpZp _ | .cmpImm _ | .cmpAbs _ | .cmpIzy _ | .cmpZpx _ | .cmpAby _ | .cmpAbx _ => .cmp
  | .cpxImm _ | .cpxZp _ | .cpxAbs _ => .cpx
  | .cpyImm _ | .cpyZp _ | .cpyAbs _ => .cpy
  | .incZp _ | .incAbs _ | .incZpx _ | .incAbx _ => .inc
  | .decZp _ | .decAbs _ | .decZpx _ | .decAbx _ => .dec
  | .inx => .inx
  | .iny => .iny
  | .dex => .dex
  | .dey => .dey
  | .aslZp _ | .aslAcc | .aslAbs _ | .aslZpx _ | .aslAbx _ => .asl
  | .lsrZp _ | .lsrAcc | .lsrAbs _ | .lsrZpx _ | .lsrAbx _ => .lsr
  | .rolZp _ | .rolAcc | .rolAbs _ | .rolZpx _ | .rolAbx _ => .rol
  | .rorZp _ | .rorAcc | .rorAbs _ | .rorZpx _ | .rorAbx _ => .ror
  | .bitZp _ | .bitAbs _ => .bit
  | .bcc _ => .bcc
  | .bcs _ => .bcs
  | .beq _ => .beq
  | .bne _ => .bne
  | .bmi _ => .bmi
  | .bpl _ => .bpl
  | .bvc _ => .bvc
  | .bvs _ => .bvs
  | .jmpAbs _ | .jmpInd _ => .jmp
  | .jsr _ => .jsr
  | .rts => .rts
  | .pha => .pha
  | .php => .php
  | .pla => .pla
  | .plp => .plp
  | .brk => .brk
  | .rti => .rti
  | .sec => .sec
  | .clc => .clc
  | .sei => .sei
  | .cli => .cli
  | .sed => .sed
  | .cld => .cld
  | .clv => .clv
  | .nop => .nop

/-- The addressing mode of an instruction (the tag column of 30_encoding.md R75). -/
def Instr.mode : Instr → AddrMode
  | .tax | .tay | .txa | .tya | .tsx | .txs | .inx | .iny
    | .dex | .dey | .rts | .pha | .php | .pla | .plp | .brk
    | .rti | .sec | .clc | .sei | .cli | .sed | .cld | .clv
    | .nop => .imp
  | .aslAcc | .lsrAcc | .rolAcc | .rorAcc => .acc
  | .ldaImm _ | .ldxImm _ | .ldyImm _ | .andImm _ | .oraImm _ | .eorImm _ | .adcImm _ | .sbcImm _
    | .cmpImm _ | .cpxImm _ | .cpyImm _ => .imm
  | .bcc _ | .bcs _ | .beq _ | .bne _ | .bmi _ | .bpl _ | .bvc _ | .bvs _ => .rel
  | .ldaZp _ | .ldxZp _ | .ldyZp _ | .andZp _ | .oraZp _ | .eorZp _ | .staZp _ | .stxZp _
    | .styZp _ | .adcZp _ | .sbcZp _ | .cmpZp _ | .cpxZp _ | .cpyZp _ | .incZp _ | .decZp _
    | .aslZp _ | .lsrZp _ | .rolZp _ | .rorZp _ | .bitZp _ => .zp
  | .ldaZpx _ | .ldyZpx _ | .andZpx _ | .oraZpx _ | .eorZpx _ | .staZpx _ | .styZpx _ | .adcZpx _
    | .sbcZpx _ | .cmpZpx _ | .incZpx _ | .decZpx _ | .aslZpx _ | .lsrZpx _ | .rolZpx _ | .rorZpx _ => .zpx
  | .ldxZpy _ | .stxZpy _ => .zpy
  | .ldaAbs _ | .ldxAbs _ | .ldyAbs _ | .andAbs _ | .oraAbs _ | .eorAbs _ | .staAbs _ | .stxAbs _
    | .styAbs _ | .adcAbs _ | .sbcAbs _ | .cmpAbs _ | .cpxAbs _ | .cpyAbs _ | .incAbs _ | .decAbs _
    | .aslAbs _ | .lsrAbs _ | .rolAbs _ | .rorAbs _ | .bitAbs _ | .jmpAbs _ | .jsr _ => .abs
  | .ldaAbx _ | .ldyAbx _ | .andAbx _ | .oraAbx _ | .eorAbx _ | .staAbx _ | .adcAbx _ | .sbcAbx _
    | .cmpAbx _ | .incAbx _ | .decAbx _ | .aslAbx _ | .lsrAbx _ | .rolAbx _ | .rorAbx _ => .abx
  | .ldaAby _ | .ldxAby _ | .andAby _ | .oraAby _ | .eorAby _ | .staAby _ | .adcAby _ | .sbcAby _
    | .cmpAby _ => .aby
  | .jmpInd _ => .ind
  | .ldaIzx _ | .andIzx _ | .oraIzx _ | .eorIzx _ | .staIzx _ | .adcIzx _ | .sbcIzx _ | .cmpIzx _ => .izx
  | .ldaIzy _ | .andIzy _ | .oraIzy _ | .eorIzy _ | .staIzy _ | .adcIzy _ | .sbcIzy _ | .cmpIzy _ => .izy

/-- The number of operand bytes of a mode: none, one or two (30_encoding.md R70, R71). -/
def AddrMode.operandBytes : AddrMode → Nat
  | .imp | .acc => 0
  | .imm | .rel | .zp | .zpx | .zpy | .izx | .izy => 1
  | .abs | .abx | .aby | .ind => 2

/-- The size in bytes: the opcode and its operand bytes (30_encoding.md R71). -/
def AddrMode.size (m : AddrMode) : Nat := 1 + m.operandBytes

/-- The size in bytes of an instruction (30_encoding.md R73). -/
def Instr.size (i : Instr) : Nat := i.mode.size

end Sys2Proof
end

