-- ==== Sys2Proof/WellFormed.lean ====
section
/-! DEFINITION. When a term is an instruction. Every term of `Instr` is well formed by its type: an operand is a whole byte or
word and every value of it is legal (30_encoding.md R78). What can be ill formed is code as a programmer lays it down, a list
of bytes: it may be empty, begin with one of the 105 bytes that spell no instruction (R77), or have too few or too many operand
bytes (R70, R73). The three checks are written from the spec's own lists, apart from the decoder's table. -/

namespace Sys2Proof

/-- The complete list of the 105 bytes that spell no instruction, as 30_encoding.md R77 gives it. -/
def illegalOpcodes : List Nat :=
  [0x02, 0x03, 0x04, 0x07, 0x0B, 0x0C, 0x0F, 0x12, 0x13, 0x14, 0x17, 0x1A, 0x1B, 0x1C, 0x1F] ++
  [0x22, 0x23, 0x27, 0x2B, 0x2F, 0x32, 0x33, 0x34, 0x37, 0x3A, 0x3B, 0x3C, 0x3F, 0x42, 0x43] ++
  [0x44, 0x47, 0x4B, 0x4F, 0x52, 0x53, 0x54, 0x57, 0x5A, 0x5B, 0x5C, 0x5F, 0x62, 0x63, 0x64] ++
  [0x67, 0x6B, 0x6F, 0x72, 0x73, 0x74, 0x77, 0x7A, 0x7B, 0x7C, 0x7F, 0x80, 0x82, 0x83, 0x87] ++
  [0x89, 0x8B, 0x8F, 0x92, 0x93, 0x97, 0x9B, 0x9C, 0x9E, 0x9F, 0xA3, 0xA7, 0xAB, 0xAF, 0xB2] ++
  [0xB3, 0xB7, 0xBB, 0xBF, 0xC2, 0xC3, 0xC7, 0xCB, 0xCF, 0xD2, 0xD3, 0xD4, 0xD7, 0xDA, 0xDB] ++
  [0xDC, 0xDF, 0xE2, 0xE3, 0xE7, 0xEB, 0xEF, 0xF2, 0xF3, 0xF4, 0xF7, 0xFA, 0xFB, 0xFC, 0xFF]

/-- The opcode bytes of the rows of 30_encoding.md R75 with size 1. -/
def oneByteOpcodes : List Nat :=
  [0x00, 0x08, 0x0A, 0x18, 0x28, 0x2A, 0x38, 0x40, 0x48, 0x4A, 0x58, 0x60, 0x68, 0x6A, 0x78] ++
  [0x88, 0x8A, 0x98, 0x9A, 0xA8, 0xAA, 0xB8, 0xBA, 0xC8, 0xCA, 0xD8, 0xE8, 0xEA, 0xF8]

/-- The opcode bytes of the rows of 30_encoding.md R75 with size 3. -/
def threeByteOpcodes : List Nat :=
  [0x0D, 0x0E, 0x19, 0x1D, 0x1E, 0x20, 0x2C, 0x2D, 0x2E, 0x39, 0x3D, 0x3E, 0x4C, 0x4D, 0x4E] ++
  [0x59, 0x5D, 0x5E, 0x6C, 0x6D, 0x6E, 0x79, 0x7D, 0x7E, 0x8C, 0x8D, 0x8E, 0x99, 0x9D, 0xAC] ++
  [0xAD, 0xAE, 0xB9, 0xBC, 0xBD, 0xBE, 0xCC, 0xCD, 0xCE, 0xD9, 0xDD, 0xDE, 0xEC, 0xED, 0xEE] ++
  [0xF9, 0xFD, 0xFE]

/-- The length a legal opcode byte gives its instruction (30_encoding.md R73). -/
def codeLength (op : Byte) : Nat :=
  if op.toNat ∈ oneByteOpcodes then 1 else if op.toNat ∈ threeByteOpcodes then 3 else 2

/-- The byte spells an instruction (30_encoding.md R75, R77). -/
def opcodeLegal (op : Byte) : Bool := !illegalOpcodes.contains op.toNat

/-- The bytes are the code of exactly one instruction. -/
def wellFormedCode : List Byte → Bool
  | [] => false
  | op :: operands => opcodeLegal op && operands.length + 1 == codeLength op

end Sys2Proof
end

