-- ==== Sys2Proof/Decode.lean ====
section
/-! DEFINITION. The opcode table, the decoder and the encoder (30_encoding.md R70 to R77). One row per legal opcode byte, in the
order and with the columns of R75: byte, mode tag, base cycles, extra, and the instruction the row builds from its operand
bytes. Bytes and pairings are the spec's (log 16), the cycle column is the default of its parameter BaseCycles (log 10). -/

namespace Sys2Proof

/-- The extra column of 30_encoding.md R75: `-`, `P` or `B`. -/
inductive ExtraRule where
  | none | pageCross | branch
  deriving DecidableEq, Repr

/-- The three formats of 30_encoding.md R70, with the instruction each row builds from the operand (R72). -/
inductive Form where
  | f1 (i : Instr)
  | f2 (build : Byte → Instr)
  | f3 (build : Word → Instr)

/-- One opcode descriptor (30_encoding.md R74, R75). -/
structure OpRow where
  code : Byte
  mode : AddrMode
  base : Nat
  extra : ExtraRule
  form : Form

/-- Bytes 0x00 to 0x0F. -/
def opcodeRows0x : List OpRow := [
  ⟨0x00, .imp, 7, .none, .f1 .brk⟩,
  ⟨0x01, .izx, 6, .none, .f2 .oraIzx⟩,
  ⟨0x05, .zp, 3, .none, .f2 .oraZp⟩,
  ⟨0x06, .zp, 5, .none, .f2 .aslZp⟩,
  ⟨0x08, .imp, 3, .none, .f1 .php⟩,
  ⟨0x09, .imm, 2, .none, .f2 .oraImm⟩,
  ⟨0x0A, .acc, 2, .none, .f1 .aslAcc⟩,
  ⟨0x0D, .abs, 4, .none, .f3 .oraAbs⟩,
  ⟨0x0E, .abs, 6, .none, .f3 .aslAbs⟩]

/-- Bytes 0x10 to 0x1F. -/
def opcodeRows1x : List OpRow := [
  ⟨0x10, .rel, 2, .branch, .f2 .bpl⟩,
  ⟨0x11, .izy, 5, .pageCross, .f2 .oraIzy⟩,
  ⟨0x15, .zpx, 4, .none, .f2 .oraZpx⟩,
  ⟨0x16, .zpx, 6, .none, .f2 .aslZpx⟩,
  ⟨0x18, .imp, 2, .none, .f1 .clc⟩,
  ⟨0x19, .aby, 4, .pageCross, .f3 .oraAby⟩,
  ⟨0x1D, .abx, 4, .pageCross, .f3 .oraAbx⟩,
  ⟨0x1E, .abx, 7, .none, .f3 .aslAbx⟩]

/-- Bytes 0x20 to 0x2F. -/
def opcodeRows2x : List OpRow := [
  ⟨0x20, .abs, 6, .none, .f3 .jsr⟩,
  ⟨0x21, .izx, 6, .none, .f2 .andIzx⟩,
  ⟨0x24, .zp, 3, .none, .f2 .bitZp⟩,
  ⟨0x25, .zp, 3, .none, .f2 .andZp⟩,
  ⟨0x26, .zp, 5, .none, .f2 .rolZp⟩,
  ⟨0x28, .imp, 4, .none, .f1 .plp⟩,
  ⟨0x29, .imm, 2, .none, .f2 .andImm⟩,
  ⟨0x2A, .acc, 2, .none, .f1 .rolAcc⟩,
  ⟨0x2C, .abs, 4, .none, .f3 .bitAbs⟩,
  ⟨0x2D, .abs, 4, .none, .f3 .andAbs⟩,
  ⟨0x2E, .abs, 6, .none, .f3 .rolAbs⟩]

/-- Bytes 0x30 to 0x3F. -/
def opcodeRows3x : List OpRow := [
  ⟨0x30, .rel, 2, .branch, .f2 .bmi⟩,
  ⟨0x31, .izy, 5, .pageCross, .f2 .andIzy⟩,
  ⟨0x35, .zpx, 4, .none, .f2 .andZpx⟩,
  ⟨0x36, .zpx, 6, .none, .f2 .rolZpx⟩,
  ⟨0x38, .imp, 2, .none, .f1 .sec⟩,
  ⟨0x39, .aby, 4, .pageCross, .f3 .andAby⟩,
  ⟨0x3D, .abx, 4, .pageCross, .f3 .andAbx⟩,
  ⟨0x3E, .abx, 7, .none, .f3 .rolAbx⟩]

/-- Bytes 0x40 to 0x4F. -/
def opcodeRows4x : List OpRow := [
  ⟨0x40, .imp, 6, .none, .f1 .rti⟩,
  ⟨0x41, .izx, 6, .none, .f2 .eorIzx⟩,
  ⟨0x45, .zp, 3, .none, .f2 .eorZp⟩,
  ⟨0x46, .zp, 5, .none, .f2 .lsrZp⟩,
  ⟨0x48, .imp, 3, .none, .f1 .pha⟩,
  ⟨0x49, .imm, 2, .none, .f2 .eorImm⟩,
  ⟨0x4A, .acc, 2, .none, .f1 .lsrAcc⟩,
  ⟨0x4C, .abs, 3, .none, .f3 .jmpAbs⟩,
  ⟨0x4D, .abs, 4, .none, .f3 .eorAbs⟩,
  ⟨0x4E, .abs, 6, .none, .f3 .lsrAbs⟩]

/-- Bytes 0x50 to 0x5F. -/
def opcodeRows5x : List OpRow := [
  ⟨0x50, .rel, 2, .branch, .f2 .bvc⟩,
  ⟨0x51, .izy, 5, .pageCross, .f2 .eorIzy⟩,
  ⟨0x55, .zpx, 4, .none, .f2 .eorZpx⟩,
  ⟨0x56, .zpx, 6, .none, .f2 .lsrZpx⟩,
  ⟨0x58, .imp, 2, .none, .f1 .cli⟩,
  ⟨0x59, .aby, 4, .pageCross, .f3 .eorAby⟩,
  ⟨0x5D, .abx, 4, .pageCross, .f3 .eorAbx⟩,
  ⟨0x5E, .abx, 7, .none, .f3 .lsrAbx⟩]

/-- Bytes 0x60 to 0x6F. -/
def opcodeRows6x : List OpRow := [
  ⟨0x60, .imp, 6, .none, .f1 .rts⟩,
  ⟨0x61, .izx, 6, .none, .f2 .adcIzx⟩,
  ⟨0x65, .zp, 3, .none, .f2 .adcZp⟩,
  ⟨0x66, .zp, 5, .none, .f2 .rorZp⟩,
  ⟨0x68, .imp, 4, .none, .f1 .pla⟩,
  ⟨0x69, .imm, 2, .none, .f2 .adcImm⟩,
  ⟨0x6A, .acc, 2, .none, .f1 .rorAcc⟩,
  ⟨0x6C, .ind, 5, .none, .f3 .jmpInd⟩,
  ⟨0x6D, .abs, 4, .none, .f3 .adcAbs⟩,
  ⟨0x6E, .abs, 6, .none, .f3 .rorAbs⟩]

/-- Bytes 0x70 to 0x7F. -/
def opcodeRows7x : List OpRow := [
  ⟨0x70, .rel, 2, .branch, .f2 .bvs⟩,
  ⟨0x71, .izy, 5, .pageCross, .f2 .adcIzy⟩,
  ⟨0x75, .zpx, 4, .none, .f2 .adcZpx⟩,
  ⟨0x76, .zpx, 6, .none, .f2 .rorZpx⟩,
  ⟨0x78, .imp, 2, .none, .f1 .sei⟩,
  ⟨0x79, .aby, 4, .pageCross, .f3 .adcAby⟩,
  ⟨0x7D, .abx, 4, .pageCross, .f3 .adcAbx⟩,
  ⟨0x7E, .abx, 7, .none, .f3 .rorAbx⟩]

/-- Bytes 0x80 to 0x8F. -/
def opcodeRows8x : List OpRow := [
  ⟨0x81, .izx, 6, .none, .f2 .staIzx⟩,
  ⟨0x84, .zp, 3, .none, .f2 .styZp⟩,
  ⟨0x85, .zp, 3, .none, .f2 .staZp⟩,
  ⟨0x86, .zp, 3, .none, .f2 .stxZp⟩,
  ⟨0x88, .imp, 2, .none, .f1 .dey⟩,
  ⟨0x8A, .imp, 2, .none, .f1 .txa⟩,
  ⟨0x8C, .abs, 4, .none, .f3 .styAbs⟩,
  ⟨0x8D, .abs, 4, .none, .f3 .staAbs⟩,
  ⟨0x8E, .abs, 4, .none, .f3 .stxAbs⟩]

/-- Bytes 0x90 to 0x9F. -/
def opcodeRows9x : List OpRow := [
  ⟨0x90, .rel, 2, .branch, .f2 .bcc⟩,
  ⟨0x91, .izy, 6, .none, .f2 .staIzy⟩,
  ⟨0x94, .zpx, 4, .none, .f2 .styZpx⟩,
  ⟨0x95, .zpx, 4, .none, .f2 .staZpx⟩,
  ⟨0x96, .zpy, 4, .none, .f2 .stxZpy⟩,
  ⟨0x98, .imp, 2, .none, .f1 .tya⟩,
  ⟨0x99, .aby, 5, .none, .f3 .staAby⟩,
  ⟨0x9A, .imp, 2, .none, .f1 .txs⟩,
  ⟨0x9D, .abx, 5, .none, .f3 .staAbx⟩]

/-- Bytes 0xA0 to 0xAF. -/
def opcodeRowsAx : List OpRow := [
  ⟨0xA0, .imm, 2, .none, .f2 .ldyImm⟩,
  ⟨0xA1, .izx, 6, .none, .f2 .ldaIzx⟩,
  ⟨0xA2, .imm, 2, .none, .f2 .ldxImm⟩,
  ⟨0xA4, .zp, 3, .none, .f2 .ldyZp⟩,
  ⟨0xA5, .zp, 3, .none, .f2 .ldaZp⟩,
  ⟨0xA6, .zp, 3, .none, .f2 .ldxZp⟩,
  ⟨0xA8, .imp, 2, .none, .f1 .tay⟩,
  ⟨0xA9, .imm, 2, .none, .f2 .ldaImm⟩,
  ⟨0xAA, .imp, 2, .none, .f1 .tax⟩,
  ⟨0xAC, .abs, 4, .none, .f3 .ldyAbs⟩,
  ⟨0xAD, .abs, 4, .none, .f3 .ldaAbs⟩,
  ⟨0xAE, .abs, 4, .none, .f3 .ldxAbs⟩]

/-- Bytes 0xB0 to 0xBF. -/
def opcodeRowsBx : List OpRow := [
  ⟨0xB0, .rel, 2, .branch, .f2 .bcs⟩,
  ⟨0xB1, .izy, 5, .pageCross, .f2 .ldaIzy⟩,
  ⟨0xB4, .zpx, 4, .none, .f2 .ldyZpx⟩,
  ⟨0xB5, .zpx, 4, .none, .f2 .ldaZpx⟩,
  ⟨0xB6, .zpy, 4, .none, .f2 .ldxZpy⟩,
  ⟨0xB8, .imp, 2, .none, .f1 .clv⟩,
  ⟨0xB9, .aby, 4, .pageCross, .f3 .ldaAby⟩,
  ⟨0xBA, .imp, 2, .none, .f1 .tsx⟩,
  ⟨0xBC, .abx, 4, .pageCross, .f3 .ldyAbx⟩,
  ⟨0xBD, .abx, 4, .pageCross, .f3 .ldaAbx⟩,
  ⟨0xBE, .aby, 4, .pageCross, .f3 .ldxAby⟩]

/-- Bytes 0xC0 to 0xCF. -/
def opcodeRowsCx : List OpRow := [
  ⟨0xC0, .imm, 2, .none, .f2 .cpyImm⟩,
  ⟨0xC1, .izx, 6, .none, .f2 .cmpIzx⟩,
  ⟨0xC4, .zp, 3, .none, .f2 .cpyZp⟩,
  ⟨0xC5, .zp, 3, .none, .f2 .cmpZp⟩,
  ⟨0xC6, .zp, 5, .none, .f2 .decZp⟩,
  ⟨0xC8, .imp, 2, .none, .f1 .iny⟩,
  ⟨0xC9, .imm, 2, .none, .f2 .cmpImm⟩,
  ⟨0xCA, .imp, 2, .none, .f1 .dex⟩,
  ⟨0xCC, .abs, 4, .none, .f3 .cpyAbs⟩,
  ⟨0xCD, .abs, 4, .none, .f3 .cmpAbs⟩,
  ⟨0xCE, .abs, 6, .none, .f3 .decAbs⟩]

/-- Bytes 0xD0 to 0xDF. -/
def opcodeRowsDx : List OpRow := [
  ⟨0xD0, .rel, 2, .branch, .f2 .bne⟩,
  ⟨0xD1, .izy, 5, .pageCross, .f2 .cmpIzy⟩,
  ⟨0xD5, .zpx, 4, .none, .f2 .cmpZpx⟩,
  ⟨0xD6, .zpx, 6, .none, .f2 .decZpx⟩,
  ⟨0xD8, .imp, 2, .none, .f1 .cld⟩,
  ⟨0xD9, .aby, 4, .pageCross, .f3 .cmpAby⟩,
  ⟨0xDD, .abx, 4, .pageCross, .f3 .cmpAbx⟩,
  ⟨0xDE, .abx, 7, .none, .f3 .decAbx⟩]

/-- Bytes 0xE0 to 0xEF. -/
def opcodeRowsEx : List OpRow := [
  ⟨0xE0, .imm, 2, .none, .f2 .cpxImm⟩,
  ⟨0xE1, .izx, 6, .none, .f2 .sbcIzx⟩,
  ⟨0xE4, .zp, 3, .none, .f2 .cpxZp⟩,
  ⟨0xE5, .zp, 3, .none, .f2 .sbcZp⟩,
  ⟨0xE6, .zp, 5, .none, .f2 .incZp⟩,
  ⟨0xE8, .imp, 2, .none, .f1 .inx⟩,
  ⟨0xE9, .imm, 2, .none, .f2 .sbcImm⟩,
  ⟨0xEA, .imp, 2, .none, .f1 .nop⟩,
  ⟨0xEC, .abs, 4, .none, .f3 .cpxAbs⟩,
  ⟨0xED, .abs, 4, .none, .f3 .sbcAbs⟩,
  ⟨0xEE, .abs, 6, .none, .f3 .incAbs⟩]

/-- Bytes 0xF0 to 0xFF. -/
def opcodeRowsFx : List OpRow := [
  ⟨0xF0, .rel, 2, .branch, .f2 .beq⟩,
  ⟨0xF1, .izy, 5, .pageCross, .f2 .sbcIzy⟩,
  ⟨0xF5, .zpx, 4, .none, .f2 .sbcZpx⟩,
  ⟨0xF6, .zpx, 6, .none, .f2 .incZpx⟩,
  ⟨0xF8, .imp, 2, .none, .f1 .sed⟩,
  ⟨0xF9, .aby, 4, .pageCross, .f3 .sbcAby⟩,
  ⟨0xFD, .abx, 4, .pageCross, .f3 .sbcAbx⟩,
  ⟨0xFE, .abx, 7, .none, .f3 .incAbx⟩]

/-- The whole table: 151 rows (30_encoding.md R75). -/
def opcodeTable : List OpRow :=
  opcodeRows0x ++ opcodeRows1x ++ opcodeRows2x ++ opcodeRows3x ++
  opcodeRows4x ++ opcodeRows5x ++ opcodeRows6x ++ opcodeRows7x ++
  opcodeRows8x ++ opcodeRows9x ++ opcodeRowsAx ++ opcodeRowsBx ++
  opcodeRowsCx ++ opcodeRowsDx ++ opcodeRowsEx ++ opcodeRowsFx

/-- The rows whose byte has the given high nibble: one line of the matrix of 30_encoding.md R76. -/
def opcodeRows (hi : Nat) : List OpRow :=
  match hi with
  | 0 => opcodeRows0x
  | 1 => opcodeRows1x
  | 2 => opcodeRows2x
  | 3 => opcodeRows3x
  | 4 => opcodeRows4x
  | 5 => opcodeRows5x
  | 6 => opcodeRows6x
  | 7 => opcodeRows7x
  | 8 => opcodeRows8x
  | 9 => opcodeRows9x
  | 10 => opcodeRowsAx
  | 11 => opcodeRowsBx
  | 12 => opcodeRowsCx
  | 13 => opcodeRowsDx
  | 14 => opcodeRowsEx
  | _ => opcodeRowsFx

/-- The row of an opcode byte, if it has one: a pure lookup of the whole byte (30_encoding.md R70, R73). -/
def rowOf (op : Byte) : Option OpRow := (opcodeRows (op.toNat / 16)).find? (fun r => r.code == op)

/-- The instruction a format builds from the two bytes after the opcode: F1 reads neither, F2 the first, F3 both, low byte first
(30_encoding.md R72). -/
def Form.build (f : Form) (lo hi : Byte) : Instr :=
  match f with
  | .f1 i => i
  | .f2 mk => mk lo
  | .f3 mk => mk (joinBytes hi lo)

/-- The number of operand bytes of a format (30_encoding.md R70). -/
def Form.operandBytes : Form → Nat
  | .f1 _ => 0
  | .f2 _ => 1
  | .f3 _ => 2

/-- The instruction an opcode byte and the two bytes after it spell; `none` for the 105 illegal bytes, whatever follows them
(40_step_and_addressing.md R102: the test is on the opcode byte alone). -/
def decodeBytes (op lo hi : Byte) : Option Instr := (rowOf op).map (fun r => r.form.build lo hi)

/-- What reading one instruction from a list of bytes gives: the instruction and the bytes after it, or a rejection by name. -/
inductive Decoded where
  | ok (i : Instr) (rest : List Byte)
  | illegalOpcode (op : Byte)
  | truncated (op : Byte)
  | empty
  deriving DecidableEq, Repr

/-- Decoding of any list of bytes (30_encoding.md R70, R72, R77). -/
def decode : List Byte → Decoded
  | [] => .empty
  | op :: bs =>
    match rowOf op with
    | none => .illegalOpcode op
    | some r =>
      match r.form, bs with
      | .f1 i, rest => .ok i rest
      | .f2 mk, nn :: rest => .ok (mk nn) rest
      | .f3 mk, ll :: hh :: rest => .ok (mk (joinBytes hh ll)) rest
      | .f2 _, [] | .f3 _, [] | .f3 _, [_] => .truncated op

/-- The bytes of a one-operand instruction (format F2). -/
def codeF2 (op nn : Byte) : List Byte := [op, nn]

/-- The bytes of a two-operand instruction (format F3), low byte first. -/
def codeF3 (op : Byte) (w : Word) : List Byte := [op, lo8 w, hi8 w]

/-- The bytes of an instruction, from the rows of 30_encoding.md R75. -/
def encode : Instr → List Byte
  | .ldaIzx nn => codeF2 0xA1 nn
  | .ldaZp nn => codeF2 0xA5 nn
  | .ldaImm nn => codeF2 0xA9 nn
  | .ldaAbs addr => codeF3 0xAD addr
  | .ldaIzy nn => codeF2 0xB1 nn
  | .ldaZpx nn => codeF2 0xB5 nn
  | .ldaAby base => codeF3 0xB9 base
  | .ldaAbx base => codeF3 0xBD base
  | .ldxImm nn => codeF2 0xA2 nn
  | .ldxZp nn => codeF2 0xA6 nn
  | .ldxAbs addr => codeF3 0xAE addr
  | .ldxZpy nn => codeF2 0xB6 nn
  | .ldxAby base => codeF3 0xBE base
  | .ldyImm nn => codeF2 0xA0 nn
  | .ldyZp nn => codeF2 0xA4 nn
  | .ldyAbs addr => codeF3 0xAC addr
  | .ldyZpx nn => codeF2 0xB4 nn
  | .ldyAbx base => codeF3 0xBC base
  | .andIzx nn => codeF2 0x21 nn
  | .andZp nn => codeF2 0x25 nn
  | .andImm nn => codeF2 0x29 nn
  | .andAbs addr => codeF3 0x2D addr
  | .andIzy nn => codeF2 0x31 nn
  | .andZpx nn => codeF2 0x35 nn
  | .andAby base => codeF3 0x39 base
  | .andAbx base => codeF3 0x3D base
  | .oraIzx nn => codeF2 0x01 nn
  | .oraZp nn => codeF2 0x05 nn
  | .oraImm nn => codeF2 0x09 nn
  | .oraAbs addr => codeF3 0x0D addr
  | .oraIzy nn => codeF2 0x11 nn
  | .oraZpx nn => codeF2 0x15 nn
  | .oraAby base => codeF3 0x19 base
  | .oraAbx base => codeF3 0x1D base
  | .eorIzx nn => codeF2 0x41 nn
  | .eorZp nn => codeF2 0x45 nn
  | .eorImm nn => codeF2 0x49 nn
  | .eorAbs addr => codeF3 0x4D addr
  | .eorIzy nn => codeF2 0x51 nn
  | .eorZpx nn => codeF2 0x55 nn
  | .eorAby base => codeF3 0x59 base
  | .eorAbx base => codeF3 0x5D base
  | .tax => [0xAA]
  | .tay => [0xA8]
  | .txa => [0x8A]
  | .tya => [0x98]
  | .tsx => [0xBA]
  | .txs => [0x9A]
  | .staIzx nn => codeF2 0x81 nn
  | .staZp nn => codeF2 0x85 nn
  | .staAbs addr => codeF3 0x8D addr
  | .staIzy nn => codeF2 0x91 nn
  | .staZpx nn => codeF2 0x95 nn
  | .staAby base => codeF3 0x99 base
  | .staAbx base => codeF3 0x9D base
  | .stxZp nn => codeF2 0x86 nn
  | .stxAbs addr => codeF3 0x8E addr
  | .stxZpy nn => codeF2 0x96 nn
  | .styZp nn => codeF2 0x84 nn
  | .styAbs addr => codeF3 0x8C addr
  | .styZpx nn => codeF2 0x94 nn
  | .adcIzx nn => codeF2 0x61 nn
  | .adcZp nn => codeF2 0x65 nn
  | .adcImm nn => codeF2 0x69 nn
  | .adcAbs addr => codeF3 0x6D addr
  | .adcIzy nn => codeF2 0x71 nn
  | .adcZpx nn => codeF2 0x75 nn
  | .adcAby base => codeF3 0x79 base
  | .adcAbx base => codeF3 0x7D base
  | .sbcIzx nn => codeF2 0xE1 nn
  | .sbcZp nn => codeF2 0xE5 nn
  | .sbcImm nn => codeF2 0xE9 nn
  | .sbcAbs addr => codeF3 0xED addr
  | .sbcIzy nn => codeF2 0xF1 nn
  | .sbcZpx nn => codeF2 0xF5 nn
  | .sbcAby base => codeF3 0xF9 base
  | .sbcAbx base => codeF3 0xFD base
  | .cmpIzx nn => codeF2 0xC1 nn
  | .cmpZp nn => codeF2 0xC5 nn
  | .cmpImm nn => codeF2 0xC9 nn
  | .cmpAbs addr => codeF3 0xCD addr
  | .cmpIzy nn => codeF2 0xD1 nn
  | .cmpZpx nn => codeF2 0xD5 nn
  | .cmpAby base => codeF3 0xD9 base
  | .cmpAbx base => codeF3 0xDD base
  | .cpxImm nn => codeF2 0xE0 nn
  | .cpxZp nn => codeF2 0xE4 nn
  | .cpxAbs addr => codeF3 0xEC addr
  | .cpyImm nn => codeF2 0xC0 nn
  | .cpyZp nn => codeF2 0xC4 nn
  | .cpyAbs addr => codeF3 0xCC addr
  | .incZp nn => codeF2 0xE6 nn
  | .incAbs addr => codeF3 0xEE addr
  | .incZpx nn => codeF2 0xF6 nn
  | .incAbx base => codeF3 0xFE base
  | .decZp nn => codeF2 0xC6 nn
  | .decAbs addr => codeF3 0xCE addr
  | .decZpx nn => codeF2 0xD6 nn
  | .decAbx base => codeF3 0xDE base
  | .inx => [0xE8]
  | .iny => [0xC8]
  | .dex => [0xCA]
  | .dey => [0x88]
  | .aslZp nn => codeF2 0x06 nn
  | .aslAcc => [0x0A]
  | .aslAbs addr => codeF3 0x0E addr
  | .aslZpx nn => codeF2 0x16 nn
  | .aslAbx base => codeF3 0x1E base
  | .lsrZp nn => codeF2 0x46 nn
  | .lsrAcc => [0x4A]
  | .lsrAbs addr => codeF3 0x4E addr
  | .lsrZpx nn => codeF2 0x56 nn
  | .lsrAbx base => codeF3 0x5E base
  | .rolZp nn => codeF2 0x26 nn
  | .rolAcc => [0x2A]
  | .rolAbs addr => codeF3 0x2E addr
  | .rolZpx nn => codeF2 0x36 nn
  | .rolAbx base => codeF3 0x3E base
  | .rorZp nn => codeF2 0x66 nn
  | .rorAcc => [0x6A]
  | .rorAbs addr => codeF3 0x6E addr
  | .rorZpx nn => codeF2 0x76 nn
  | .rorAbx base => codeF3 0x7E base
  | .bitZp nn => codeF2 0x24 nn
  | .bitAbs addr => codeF3 0x2C addr
  | .bcc disp => codeF2 0x90 disp
  | .bcs disp => codeF2 0xB0 disp
  | .beq disp => codeF2 0xF0 disp
  | .bne disp => codeF2 0xD0 disp
  | .bmi disp => codeF2 0x30 disp
  | .bpl disp => codeF2 0x10 disp
  | .bvc disp => codeF2 0x50 disp
  | .bvs disp => codeF2 0x70 disp
  | .jmpAbs addr => codeF3 0x4C addr
  | .jmpInd ptr => codeF3 0x6C ptr
  | .jsr addr => codeF3 0x20 addr
  | .rts => [0x60]
  | .pha => [0x48]
  | .php => [0x08]
  | .pla => [0x68]
  | .plp => [0x28]
  | .brk => [0x00]
  | .rti => [0x40]
  | .sec => [0x38]
  | .clc => [0x18]
  | .sei => [0x78]
  | .cli => [0x58]
  | .sed => [0xF8]
  | .cld => [0xD8]
  | .clv => [0xB8]
  | .nop => [0xEA]

/-- The opcode byte of an instruction: the first byte of its code. -/
def Instr.opcode (i : Instr) : Byte := (encode i).headD 0

/-- The default of the parameter BaseCycles (00_scope.md R5): the base-cycles column of 30_encoding.md R75. A byte without a row
never reaches it. -/
def baseCycles : BaseCycles := fun op => ((rowOf op).map (·.base)).getD 0

/-- Every legal opcode byte has a count from 2 to 7, as a table for BaseCycles has (92_eei_decisions.md, the list of open parameters, log 10). -/
def BaseCycles.wf (table : BaseCycles) : Bool :=
  (List.range 16).all fun h => (opcodeRows h).all fun r => decide (2 ≤ table r.code) && decide (table r.code ≤ 7)

/-- The extra column of 30_encoding.md R75. -/
def extraRule (op : Byte) : ExtraRule := ((rowOf op).map (·.extra)).getD .none

/-- The first three bytes of an instruction whose bits are `w`, numbered as spec/opcode_table.json numbers them (bit 0 the least
significant bit of the opcode byte); every bit from `nbits` on is 0. -/
def tableBytes (nbits w : Nat) : Byte × Byte × Byte :=
  let v := w % 2 ^ nbits
  (BitVec.ofNat 8 v, BitVec.ofNat 8 (v / 256), BitVec.ofNat 8 (v / 65536))

/-- The instruction the decoder reads from the table's word. -/
def decodeTableWord (nbits w : Nat) : Option Instr :=
  decodeBytes (tableBytes nbits w).1 (tableBytes nbits w).2.1 (tableBytes nbits w).2.2

end Sys2Proof
end

