-- ==== Sys2Proof/Machine/State.lean ====
section
/-! DEFINITION. The state of the machine (10_state.md R10 to R27): the tuple A, X, Y, SP, PC, P, CYC, INS, RUN, mem, and nothing
else (R24, R25); the reasons a step can stop; and the state after reset (R27). -/

namespace Sys2Proof.Machine

/-- Why the execution loop is stopped (10_state.md R22, 60_exceptions.md R230). -/
inductive StopReason where
  /-- Code 0: the state after reset; no step produces it. -/
  | notStarted
  /-- Code 1: an opcode byte that spells no instruction, and the address it was fetched from (60_exceptions.md R231). -/
  | illegalOpcode (opcode : Byte) (addr : Word)
  /-- Code 2: the run's instruction count is reached (60_exceptions.md R246). -/
  | maxInstructions
  /-- Code 3: the target opcode is about to execute (60_exceptions.md R247). -/
  | opcodeReached (opcode : Byte)
  /-- Code 4: the host's predicate held (60_exceptions.md R248). -/
  | predicate
  deriving DecidableEq, Repr

/-- `RUN`, the state of the execution loop (10_state.md R22). -/
inductive RunState where
  | running
  | stopped (reason : StopReason)
  deriving DecidableEq, Repr

/-- Memory as plain data: the cells that differ from what an unlisted address reads as, in one canonical form
(`Memory.wf` of Machine/Ops.lean). -/
abbrev Memory := List Host.Cell

/-- The whole state of the machine (10_state.md). -/
structure State where
  /-- Accumulator (R10). -/
  a : Byte
  /-- Index register X (R11). -/
  x : Byte
  /-- Index register Y (R12). -/
  y : Byte
  /-- Stack pointer into the page 0x0100 to 0x01FF (R13). -/
  sp : Byte
  /-- Program counter (R14). -/
  pc : Word
  /-- Processor status: C Z I D B U V N from bit 0 up, all stored (R15, R16, R17). -/
  p : Byte
  /-- Cycle counter (R20). -/
  cyc : Counter
  /-- Instruction counter (R21). -/
  ins : Counter
  /-- Run state (R22). -/
  run : RunState
  /-- The 65,536 bytes of memory (R23). -/
  mem : Memory
  deriving DecidableEq, Repr

/-- No step stops with a fault: every memory access is performed (20_memory.md R46), and the one exception of the machine, the
illegal opcode, is taken as a next state whose `run` holds it (60_exceptions.md R231, log 6). So there is no constructor. -/
inductive Fault where
  deriving DecidableEq, Repr

/-- Refusals. -/
inductive Refusal where
  /-- Raised by `exec` for an instruction without a meaning; no arm raises it now. Safe. -/
  | notModelled (mnemonic : String)
  /-- Raised by `run` for `MaxInstructions(0)`, which is outside the contract (60_exceptions.md R246, log 19). Safe. -/
  | maxInstructionsZero
  deriving DecidableEq, Repr

/-- What a step answers. -/
abbrev Result := Host.Outcome State Fault Refusal

/-- The host's `Reset(RESET_PC)` (70_reset_and_hazards.md R260, R261; 10_state.md R27): PC is the host's, the counters are 0, RUN is
`Stopped(NotStarted)`, memory keeps what it held, and A, X, Y, SP, P are the unspecified values given. -/
def State.resetWith (resetPc : Word) (a x y sp p : Byte) (mem : Memory) : State :=
  { a := a, x := x, y := y, sp := sp, pc := resetPc, p := p, cyc := 0, ins := 0, run := .stopped .notStarted, mem := mem }

/-- The machine right after power-on and reset. DESIGN CHOICE (logs 1, 2, 3): the spec leaves A, X, Y, SP, P, RESET_PC and the bytes
of memory unspecified; here they are 0. -/
def State.reset : State := State.resetWith 0 0 0 0 0 0 []

end Sys2Proof.Machine
end

