-- ==== Sys2Proof/Machine/Flags.lean ====
section
/-! DEFINITION. The flags of P and every flag computation of the spec: SetNZ (40_step_and_addressing.md R124), the arithmetic of ADC
and SBC (42_arithmetic_compare.md R160 to R162), Compare (R163), the shifts and rotates (43_incdec_shift_bit.md R176 to R179), the
increments (R170, R171) and BIT (R180). Each works on bytes and answers bytes. -/

namespace Sys2Proof.Machine

/-- The eight fields of P (10_state.md R16). -/
inductive Flag where
  | c | z | i | d | b | u | v | n
  deriving DecidableEq, Repr

/-- The bit of P a flag stands at (10_state.md R16). -/
def Flag.bit : Flag → Nat
  | .c => 0
  | .z => 1
  | .i => 2
  | .d => 3
  | .b => 4
  | .u => 5
  | .v => 6
  | .n => 7

/-- Reading `P.f`. -/
def getFlag (f : Flag) (p : Byte) : Bool := p.getLsbD f.bit

/-- `P.f <- b`: one bit of P is written, the other seven are unchanged. -/
def setFlag (f : Flag) (b : Bool) (p : Byte) : Byte :=
  if b then p ||| BitVec.twoPow 8 f.bit else p &&& ~~~(BitVec.twoPow 8 f.bit)

/-- Bit 7 of a byte, `v[7]`. -/
def bit7 (v : Byte) : Bool := v.getLsbD 7

/-- `SetNZ(v)` (40_step_and_addressing.md R124). -/
def setNZ (v p : Byte) : Byte := setFlag .n (bit7 v) (setFlag .z (v == 0) p)

/-- The stacked copy of P: Break and Unused forced to 1 (10_state.md R18). -/
def stackedP (p : Byte) : Byte := p ||| 0x30

/-- What RTI loads from the popped byte: Break and Unused cleared (45_stack_system_flags.md R215, log 17). -/
def restoredP (p : Byte) : Byte := p &&& 0xCF

/-- A result byte together with the status after it. -/
structure ByteAndStatus where
  value : Byte
  p : Byte
  deriving DecidableEq, Repr

/-- `P.C <- c`, `P.Z <- z`, `P.N <- n`, `P.V <- v`, beside the result byte. -/
def withCznv (r : Byte) (c z n v : Bool) (p : Byte) : ByteAndStatus :=
  { value := r, p := setFlag .v v (setFlag .n n (setFlag .z z (setFlag .c c p))) }

/-- ADC with P.D = 0 (42_arithmetic_compare.md R160). -/
def adcBinary (a m p : Byte) : ByteAndStatus :=
  let sum := a.toNat + m.toNat + bit01 (getFlag .c p)
  let r := BitVec.ofNat 8 sum
  withCznv r (decide (255 < sum)) (r == 0) (bit7 r) (bit7 a == bit7 m && bit7 r != bit7 a) p

/-- SBC with P.D = 0 (42_arithmetic_compare.md R161): the carry is the complement of the borrow. -/
def sbcBinary (a m p : Byte) : ByteAndStatus :=
  let diff : Int := (a.toNat : Int) - (m.toNat : Int) - (1 - (bit01 (getFlag .c p) : Int))
  let r := BitVec.ofInt 8 diff
  withCznv r (decide (0 ≤ diff)) (r == 0) (bit7 r) (bit7 a != bit7 m && bit7 r != bit7 a) p

/-- The results of a decimal function written to A and the four flags (42_arithmetic_compare.md R162). -/
def ofDecResult (q : DecResult) (p : Byte) : ByteAndStatus := withCznv q.r q.c q.z q.n q.v p

/-- ADC in the mode P.D selects (42_arithmetic_compare.md R160). -/
def adc (a m p : Byte) : ByteAndStatus :=
  if getFlag .d p then ofDecResult (Config.decAdc a m (getFlag .c p)) p else adcBinary a m p

/-- SBC in the mode P.D selects (42_arithmetic_compare.md R161). -/
def sbc (a m p : Byte) : ByteAndStatus :=
  if getFlag .d p then ofDecResult (Config.decSbc a m (getFlag .c p)) p else sbcBinary a m p

/-- `Compare(reg, m)`: the status after it (42_arithmetic_compare.md, section 2, R163). -/
def compareBytes (reg m p : Byte) : Byte := setNZ (reg - m) (setFlag .c (decide (m.toNat ≤ reg.toNat)) p)

/-- INC on a byte (43_incdec_shift_bit.md R170). -/
def increment (m p : Byte) : ByteAndStatus := { value := m + 1, p := setNZ (m + 1) p }

/-- DEC on a byte (43_incdec_shift_bit.md R171). -/
def decrement (m p : Byte) : ByteAndStatus := { value := m - 1, p := setNZ (m - 1) p }

/-- ASL (43_incdec_shift_bit.md R176). -/
def shiftLeft (v p : Byte) : ByteAndStatus :=
  let r := v <<< 1
  { value := r, p := setNZ r (setFlag .c (v.getLsbD 7) p) }

/-- LSR (43_incdec_shift_bit.md R177). -/
def shiftRight (v p : Byte) : ByteAndStatus :=
  let r := v >>> 1
  { value := r, p := setNZ r (setFlag .c (v.getLsbD 0) p) }

/-- ROL: the prior carry enters bit 0 (43_incdec_shift_bit.md R178). -/
def rotateLeft (v p : Byte) : ByteAndStatus :=
  let r := v <<< 1 ||| BitVec.ofNat 8 (bit01 (getFlag .c p))
  { value := r, p := setNZ r (setFlag .c (v.getLsbD 7) p) }

/-- ROR: the prior carry enters bit 7 (43_incdec_shift_bit.md R179). -/
def rotateRight (v p : Byte) : ByteAndStatus :=
  let r := v >>> 1 ||| BitVec.ofNat 8 (bit01 (getFlag .c p) * 128)
  { value := r, p := setNZ r (setFlag .c (v.getLsbD 0) p) }

/-- BIT: Z from `A & m`, N and V from bits 7 and 6 of `m` (43_incdec_shift_bit.md R180). -/
def bitTest (a m p : Byte) : Byte :=
  setFlag .v (m.getLsbD 6) (setFlag .n (m.getLsbD 7) (setFlag .z ((a &&& m) == 0) p))

end Sys2Proof.Machine
end

