-- ==== Sys2Proof/Machine/Ops.lean ====
section
/-! DEFINITION. The named operations over memory and registers: memory in canonical form (20_memory.md R40 to R44), the register
writers, push and pop (40_step_and_addressing.md R125 to R128), taking the BRK trap and returning from it (45_stack_system_flags.md
R214, R215; 60_exceptions.md R237, R238), and the illegal-opcode halt (60_exceptions.md R231). -/

namespace Sys2Proof.Machine

/-- What an address that no cell lists reads as. DESIGN CHOICE (log 3): the spec leaves unloaded bytes unspecified. -/
def unlistedByte : Byte := 0

/-- Canonical form from address `lo` on: addresses strictly rising, below 65,536, and no cell holds what an unlisted address reads
as. -/
def Memory.wfFrom : Nat → Memory → Bool
  | _, [] => true
  | lo, (k, v) :: m => decide (lo ≤ k) && decide (k < 65536) && v != unlistedByte && Memory.wfFrom (k + 1) m

/-- The canonical form of memory. -/
def Memory.wf (m : Memory) : Bool := Memory.wfFrom 0 m

/-- The byte at an address. -/
def Memory.read : Memory → Nat → Byte
  | [], _ => unlistedByte
  | (k, v) :: m, a => if a = k then v else Memory.read m a

/-- Memory with one byte written; the canonical form is kept. -/
def Memory.write : Memory → Nat → Byte → Memory
  | [], a, v => if v = unlistedByte then [] else [(a, v)]
  | (k, w) :: m, a, v =>
    if a < k then
      if v = unlistedByte then (k, w) :: m else (a, v) :: (k, w) :: m
    else if a = k then
      if v = unlistedByte then m else (k, v) :: m
    else (k, w) :: Memory.write m a v

/-! ### Register writers -/

def State.setA (v : Byte) (s : State) : State := { s with a := v }
def State.setX (v : Byte) (s : State) : State := { s with x := v }
def State.setY (v : Byte) (s : State) : State := { s with y := v }
def State.setSp (v : Byte) (s : State) : State := { s with sp := v }
def State.setPc (v : Word) (s : State) : State := { s with pc := v }
def State.setP (v : Byte) (s : State) : State := { s with p := v }
def State.setCyc (v : Counter) (s : State) : State := { s with cyc := v }
def State.setIns (v : Counter) (s : State) : State := { s with ins := v }
def State.setRun (v : RunState) (s : State) : State := { s with run := v }
def State.setMem (v : Memory) (s : State) : State := { s with mem := v }

/-! ### Memory of a state -/

/-- `MemRead(addr, 1)` (20_memory.md R41). -/
def State.readByte (s : State) (a : Word) : Byte := Memory.read s.mem a.toNat

/-- `MemWrite(addr, 1, v)` (20_memory.md R42). -/
def State.writeByte (a : Word) (v : Byte) (s : State) : State := s.setMem (Memory.write s.mem a.toNat v)

/-- `MemRead(addr, 2)`: low byte at `addr`, high byte at `addr + 1` modulo 65,536 (20_memory.md R43). -/
def State.readWord (s : State) (a : Word) : Word := joinBytes (s.readByte (a + 1)) (s.readByte a)

/-- `MemWrite(addr, 2, w)` (20_memory.md R44). -/
def State.writeWord (a w : Word) (s : State) : State := (s.writeByte a (lo8 w)).writeByte (a + 1) (hi8 w)

/-! ### A register loaded, with SetNZ (40_step_and_addressing.md R124) -/

/-- `A <- v; SetNZ(A)`. -/
def loadA (v : Byte) (s : State) : State := (s.setA v).setP (setNZ v s.p)

/-- `X <- v; SetNZ(X)`. -/
def loadX (v : Byte) (s : State) : State := (s.setX v).setP (setNZ v s.p)

/-- `Y <- v; SetNZ(Y)`. -/
def loadY (v : Byte) (s : State) : State := (s.setY v).setP (setNZ v s.p)

/-! ### The stack -/

/-- The address SP designates: `0x0100 + SP` (10_state.md R13). -/
def stackAddr (sp : Byte) : Word := 0x0100 + zext16 sp

/-- `Push8(v)` (40_step_and_addressing.md R125). -/
def push8 (v : Byte) (s : State) : State := (s.writeByte (stackAddr s.sp) v).setSp (s.sp - 1)

/-- `Push16(w)`: high byte first (40_step_and_addressing.md R127). -/
def push16 (w : Word) (s : State) : State := push8 (lo8 w) (push8 (hi8 w) s)

/-- SP as `Pop8()` leaves it (40_step_and_addressing.md R126). -/
def pop8State (s : State) : State := s.setSp (s.sp + 1)

/-- The byte `Pop8()` answers: read at `0x0100 + SP` after the increment (40_step_and_addressing.md R126). -/
def pop8Value (s : State) : Byte := s.readByte (stackAddr (s.sp + 1))

/-- SP as `Pop16()` leaves it (40_step_and_addressing.md R128). -/
def pop16State (s : State) : State := pop8State (pop8State s)

/-- The word `Pop16()` answers: low byte first (40_step_and_addressing.md R128). -/
def pop16Value (s : State) : Word := joinBytes (pop8Value (pop8State s)) (pop8Value s)

/-! ### The trap, its return, and the halt -/

/-- The address of the BRK vector (20_memory.md R51). -/
def brkVector : Word := 0xFFFE

/-- Taking the BRK trap, with PC already past the BRK byte: the return address is one further (`addr0 + 2`), it is pushed high byte
first, then the stacked copy of P; then I is set in live P and PC is read from the vector (45_stack_system_flags.md R214). -/
def takeBreak (s : State) : State :=
  let saved := push8 (stackedP s.p) (push16 (s.pc + 1) s)
  (saved.setP (setFlag .i true s.p)).setPc (saved.readWord brkVector)

/-- Returning from the trap: pop P with Break and Unused cleared, then pop PC (45_stack_system_flags.md R215). -/
def returnFromBreak (s : State) : State :=
  let popped := pop8State s
  ((pop16State popped).setP (restoredP (pop8Value s))).setPc (pop16Value popped)

/-- The illegal-opcode halt: only RUN changes (60_exceptions.md R231). -/
def haltIllegal (s : State) : State := s.setRun (.stopped (.illegalOpcode (s.readByte s.pc) s.pc))

end Sys2Proof.Machine
end

