-- ==== Sys2Proof/Machine/Operands.lean ====
section
/-! DEFINITION. The addressing-mode resolver (40_step_and_addressing.md R104 to R117, R129). IMP and ACC have no memory operand; the
operand byte of IMM and REL is the instruction's own `nn`. The other modes answer `ea` and `crossed`. -/

namespace Sys2Proof.Machine

/-- The result of resolving a mode that has an effective address (40_step_and_addressing.md R104). -/
structure Resolved where
  ea : Word
  crossed : Bool
  deriving DecidableEq, Repr

/-- A result that crosses no page. -/
def uncrossed (ea : Word) : Resolved := { ea := ea, crossed := false }

/-- A base plus an unsigned index, modulo 65,536; crossed when the high byte changed (R113). -/
def indexed (base : Word) (index : Byte) : Resolved :=
  let ea := base + zext16 index
  { ea := ea, crossed := hi8 ea != hi8 base }

/-- Zero Page (R109). -/
def zp (nn : Byte) : Resolved := uncrossed (zext16 nn)

/-- Zero Page,X: the sum wraps within page 0 (R110). -/
def zpx (nn : Byte) (s : State) : Resolved := uncrossed (zext16 (nn + s.x))

/-- Zero Page,Y (R111). -/
def zpy (nn : Byte) (s : State) : Resolved := uncrossed (zext16 (nn + s.y))

/-- Absolute (R112). -/
def absolute (addr : Word) : Resolved := uncrossed addr

/-- Absolute,X (R113). -/
def abx (base : Word) (s : State) : Resolved := indexed base s.x

/-- Absolute,Y (R114). -/
def aby (base : Word) (s : State) : Resolved := indexed base s.y

/-- The address of the high byte of an indirect JMP's target: the increment stays in the pointer's page (R115). -/
def jmpPointerHigh (ptr : Word) : Word :=
  if Config.jmpIndirectPageWrap then joinBytes (hi8 ptr) (lo8 ptr + 1) else ptr + 1

/-- Indirect, used by JMP (R115). -/
def indirect (ptr : Word) (s : State) : Resolved :=
  uncrossed (joinBytes (s.readByte (jmpPointerHigh ptr)) (s.readByte ptr))

/-- The address of the high byte of the zero-page pointer at `z`. The settings of ZP_POINTER_WRAP differ only for 0xFF (R129). -/
def zpPointerHigh (z : Byte) : Word :=
  if z = 0xFF then
    match Config.zpPointerWrap with
    | .wrap16 => 0x0100
    | .wrap8 => 0x0000
  else zext16 z + 1

/-- `ReadZpPointer(z)` (R129). -/
def readZpPointer (z : Byte) (s : State) : Word := joinBytes (s.readByte (zpPointerHigh z)) (s.readByte (zext16 z))

/-- (Indirect,X) (R116). -/
def izx (nn : Byte) (s : State) : Resolved := uncrossed (readZpPointer (nn + s.x) s)

/-- (Indirect),Y (R117). -/
def izy (nn : Byte) (s : State) : Resolved := indexed (readZpPointer nn s) s.y

end Sys2Proof.Machine
end

