-- ==== Sys2Proof/Machine/Execute.lean ====
section
/-! DEFINITION. The shapes the meanings are made of: accounting (40_step_and_addressing.md R119 to R121) and the register, memory-read,
store, read-modify-write and branch forms of the execute phase (R118). A meaning gets PC already past the instruction (R103). -/

namespace Sys2Proof.Machine

/-- The extra cycles of an executed instruction: the extra column of its row decides which of the two counts (R119). -/
def extraCycles (op : Byte) (crossed : Bool) (branchExtra : Nat) : Nat :=
  match extraRule op with
  | .none => 0
  | .pageCross => bit01 crossed
  | .branch => branchExtra

/-- Accounting: CYC grows by the count of the instruction and INS by one (R119 to R121). -/
def account (cycles : Nat) (s : State) : State :=
  (s.setCyc (s.cyc + BitVec.ofNat 64 cycles)).setIns (s.ins + 1)

/-- The end of an instruction: its writes stand, the counters advance (R118 to R121). -/
def retire (op : Byte) (crossed : Bool) (branchExtra : Nat) (s : State) : Result :=
  .next (account (baseCycles op + extraCycles op crossed branchExtra) s)

/-- An instruction without a memory operand, which leaves `s`. -/
def implied (op : Byte) (s : State) : Result := retire op false 0 s

/-- An immediate operand (R107). -/
def immediate (op : Byte) (effect : Byte → State → State) (nn : Byte) (s : State) : Result :=
  retire op false 0 (effect nn s)

/-- An instruction that reads the byte at its effective address. -/
def readMem (op : Byte) (effect : Byte → State → State) (r : Resolved) (s : State) : Result :=
  retire op r.crossed 0 (effect (s.readByte r.ea) s)

/-- A store of one byte at the effective address; the byte there is not read. -/
def storeMem (op : Byte) (v : Byte) (r : Resolved) (s : State) : Result :=
  retire op r.crossed 0 (s.writeByte r.ea v)

/-- Read-modify-write: one read and one write at the effective address, and the flags. -/
def rmwMem (op : Byte) (f : Byte → Byte → ByteAndStatus) (r : Resolved) (s : State) : Result :=
  let q := f (s.readByte r.ea) s.p
  retire op r.crossed 0 ((s.writeByte r.ea q.value).setP q.p)

/-- The same operation on A (Accumulator mode, R106). -/
def rmwAcc (op : Byte) (f : Byte → Byte → ByteAndStatus) (s : State) : Result :=
  let q := f s.a s.p
  retire op false 0 ((s.setA q.value).setP q.p)

/-- A taken branch's target: the address after the branch plus the signed displacement (R108). -/
def branchTarget (disp : Byte) (next : Word) : Word := next + sext16 disp

/-- The extra cycles of a taken branch: one, and one more when the target is in another page than the address after the branch
(44_control_transfer.md R190). -/
def takenExtra (target next : Word) : Nat := 1 + bit01 (hi8 target != hi8 next)

/-- `Branch(cond)` (44_control_transfer.md R190). -/
def branch (op : Byte) (cond : Bool) (disp : Byte) (s : State) : Result :=
  if cond then
    retire op false (takenExtra (branchTarget disp s.pc) s.pc) (s.setPc (branchTarget disp s.pc))
  else retire op false 0 s

end Sys2Proof.Machine
end

