-- ==== Sys2Proof/Machine/Arithmetic.lean ====
section
/-! DEFINITION. ADC and SBC (42_arithmetic_compare.md R160 to R162). -/

namespace Sys2Proof.Machine

/-- ADC on an operand byte (R160). -/
def adcA (m : Byte) (s : State) : State := (s.setA (adc s.a m s.p).value).setP (adc s.a m s.p).p

/-- SBC on an operand byte (R161). -/
def sbcA (m : Byte) (s : State) : State := (s.setA (sbc s.a m s.p).value).setP (sbc s.a m s.p).p

/-- `ADC ($nn,X)` (R160). -/
def execAdcIzx (nn : Byte) (s : State) : Result := readMem 0x61 adcA (izx nn s) s

/-- `ADC $nn` (R160). -/
def execAdcZp (nn : Byte) (s : State) : Result := readMem 0x65 adcA (zp nn) s

/-- `ADC #$nn` (R160). -/
def execAdcImm (nn : Byte) (s : State) : Result := immediate 0x69 adcA nn s

/-- `ADC $nnnn` (R160). -/
def execAdcAbs (addr : Word) (s : State) : Result := readMem 0x6D adcA (absolute addr) s

/-- `ADC ($nn),Y` (R160). -/
def execAdcIzy (nn : Byte) (s : State) : Result := readMem 0x71 adcA (izy nn s) s

/-- `ADC $nn,X` (R160). -/
def execAdcZpx (nn : Byte) (s : State) : Result := readMem 0x75 adcA (zpx nn s) s

/-- `ADC $nnnn,Y` (R160). -/
def execAdcAby (base : Word) (s : State) : Result := readMem 0x79 adcA (aby base s) s

/-- `ADC $nnnn,X` (R160). -/
def execAdcAbx (base : Word) (s : State) : Result := readMem 0x7D adcA (abx base s) s

/-- `SBC ($nn,X)` (R161). -/
def execSbcIzx (nn : Byte) (s : State) : Result := readMem 0xE1 sbcA (izx nn s) s

/-- `SBC $nn` (R161). -/
def execSbcZp (nn : Byte) (s : State) : Result := readMem 0xE5 sbcA (zp nn) s

/-- `SBC #$nn` (R161). -/
def execSbcImm (nn : Byte) (s : State) : Result := immediate 0xE9 sbcA nn s

/-- `SBC $nnnn` (R161). -/
def execSbcAbs (addr : Word) (s : State) : Result := readMem 0xED sbcA (absolute addr) s

/-- `SBC ($nn),Y` (R161). -/
def execSbcIzy (nn : Byte) (s : State) : Result := readMem 0xF1 sbcA (izy nn s) s

/-- `SBC $nn,X` (R161). -/
def execSbcZpx (nn : Byte) (s : State) : Result := readMem 0xF5 sbcA (zpx nn s) s

/-- `SBC $nnnn,Y` (R161). -/
def execSbcAby (base : Word) (s : State) : Result := readMem 0xF9 sbcA (aby base s) s

/-- `SBC $nnnn,X` (R161). -/
def execSbcAbx (base : Word) (s : State) : Result := readMem 0xFD sbcA (abx base s) s

end Sys2Proof.Machine
end

