-- ==== Sys2Proof/Machine/BitTest.lean ====
section
/-! DEFINITION. BIT (43_incdec_shift_bit.md R180). -/

namespace Sys2Proof.Machine

/-- BIT of an operand byte against A (R180). -/
def bitTestA (m : Byte) (s : State) : State := s.setP (bitTest s.a m s.p)

/-- `BIT $nn` (R180). -/
def execBitZp (nn : Byte) (s : State) : Result := readMem 0x24 bitTestA (zp nn) s

/-- `BIT $nnnn` (R180). -/
def execBitAbs (addr : Word) (s : State) : Result := readMem 0x2C bitTestA (absolute addr) s

end Sys2Proof.Machine
end

