-- ==== Sys2Proof/Machine/Branch.lean ====
section
/-! DEFINITION. The eight conditional branches (44_control_transfer.md R190 to R198). -/

namespace Sys2Proof.Machine

/-- `BCC label` (R191). -/
def execBcc (disp : Byte) (s : State) : Result := branch 0x90 (!getFlag .c s.p) disp s

/-- `BCS label` (R192). -/
def execBcs (disp : Byte) (s : State) : Result := branch 0xB0 (getFlag .c s.p) disp s

/-- `BEQ label` (R193). -/
def execBeq (disp : Byte) (s : State) : Result := branch 0xF0 (getFlag .z s.p) disp s

/-- `BNE label` (R194). -/
def execBne (disp : Byte) (s : State) : Result := branch 0xD0 (!getFlag .z s.p) disp s

/-- `BMI label` (R195). -/
def execBmi (disp : Byte) (s : State) : Result := branch 0x30 (getFlag .n s.p) disp s

/-- `BPL label` (R196). -/
def execBpl (disp : Byte) (s : State) : Result := branch 0x10 (!getFlag .n s.p) disp s

/-- `BVC label` (R197). -/
def execBvc (disp : Byte) (s : State) : Result := branch 0x50 (!getFlag .v s.p) disp s

/-- `BVS label` (R198). -/
def execBvs (disp : Byte) (s : State) : Result := branch 0x70 (getFlag .v s.p) disp s

end Sys2Proof.Machine
end

