-- ==== Sys2Proof/Machine/Break.lean ====
section
/-! DEFINITION. BRK and RTI (45_stack_system_flags.md R214, R215; 60_exceptions.md R237, R238). -/

namespace Sys2Proof.Machine

/-- `BRK` (R214). -/
def execBrk (s : State) : Result := implied 0x00 (takeBreak s)

/-- `RTI` (R215). -/
def execRti (s : State) : Result := implied 0x40 (returnFromBreak s)

end Sys2Proof.Machine
end

