-- ==== Sys2Proof/Machine/Compare.lean ====
section
/-! DEFINITION. The compares CMP, CPX, CPY (42_arithmetic_compare.md R163 to R165). -/

namespace Sys2Proof.Machine

/-- `Compare(A, m)` (R163). -/
def compareA (m : Byte) (s : State) : State := s.setP (compareBytes s.a m s.p)

/-- `Compare(X, m)` (R164). -/
def compareX (m : Byte) (s : State) : State := s.setP (compareBytes s.x m s.p)

/-- `Compare(Y, m)` (R165). -/
def compareY (m : Byte) (s : State) : State := s.setP (compareBytes s.y m s.p)

/-- `CMP ($nn,X)` (R163). -/
def execCmpIzx (nn : Byte) (s : State) : Result := readMem 0xC1 compareA (izx nn s) s

/-- `CMP $nn` (R163). -/
def execCmpZp (nn : Byte) (s : State) : Result := readMem 0xC5 compareA (zp nn) s

/-- `CMP #$nn` (R163). -/
def execCmpImm (nn : Byte) (s : State) : Result := immediate 0xC9 compareA nn s

/-- `CMP $nnnn` (R163). -/
def execCmpAbs (addr : Word) (s : State) : Result := readMem 0xCD compareA (absolute addr) s

/-- `CMP ($nn),Y` (R163). -/
def execCmpIzy (nn : Byte) (s : State) : Result := readMem 0xD1 compareA (izy nn s) s

/-- `CMP $nn,X` (R163). -/
def execCmpZpx (nn : Byte) (s : State) : Result := readMem 0xD5 compareA (zpx nn s) s

/-- `CMP $nnnn,Y` (R163). -/
def execCmpAby (base : Word) (s : State) : Result := readMem 0xD9 compareA (aby base s) s

/-- `CMP $nnnn,X` (R163). -/
def execCmpAbx (base : Word) (s : State) : Result := readMem 0xDD compareA (abx base s) s

/-- `CPX #$nn` (R164). -/
def execCpxImm (nn : Byte) (s : State) : Result := immediate 0xE0 compareX nn s

/-- `CPX $nn` (R164). -/
def execCpxZp (nn : Byte) (s : State) : Result := readMem 0xE4 compareX (zp nn) s

/-- `CPX $nnnn` (R164). -/
def execCpxAbs (addr : Word) (s : State) : Result := readMem 0xEC compareX (absolute addr) s

/-- `CPY #$nn` (R165). -/
def execCpyImm (nn : Byte) (s : State) : Result := immediate 0xC0 compareY nn s

/-- `CPY $nn` (R165). -/
def execCpyZp (nn : Byte) (s : State) : Result := readMem 0xC4 compareY (zp nn) s

/-- `CPY $nnnn` (R165). -/
def execCpyAbs (addr : Word) (s : State) : Result := readMem 0xCC compareY (absolute addr) s

end Sys2Proof.Machine
end

