-- ==== Sys2Proof/Machine/FlagOps.lean ====
section
/-! DEFINITION. The flag instructions and NOP (45_stack_system_flags.md R216 to R223). -/

namespace Sys2Proof.Machine

/-- `SEC` (R216). -/
def execSec (s : State) : Result := implied 0x38 (s.setP (setFlag .c true s.p))

/-- `CLC` (R217). -/
def execClc (s : State) : Result := implied 0x18 (s.setP (setFlag .c false s.p))

/-- `SEI` (R218). -/
def execSei (s : State) : Result := implied 0x78 (s.setP (setFlag .i true s.p))

/-- `CLI` (R219). -/
def execCli (s : State) : Result := implied 0x58 (s.setP (setFlag .i false s.p))

/-- `SED` (R220). -/
def execSed (s : State) : Result := implied 0xF8 (s.setP (setFlag .d true s.p))

/-- `CLD` (R221). -/
def execCld (s : State) : Result := implied 0xD8 (s.setP (setFlag .d false s.p))

/-- `CLV` (R222). -/
def execClv (s : State) : Result := implied 0xB8 (s.setP (setFlag .v false s.p))

/-- `NOP` (R223). -/
def execNop (s : State) : Result := implied 0xEA (s)

end Sys2Proof.Machine
end

