-- ==== Sys2Proof/Machine/IncDec.lean ====
section
/-! DEFINITION. INC, DEC, INX, INY, DEX, DEY (43_incdec_shift_bit.md R170 to R175). -/

namespace Sys2Proof.Machine

/-- `INC $nn` (R170). -/
def execIncZp (nn : Byte) (s : State) : Result := rmwMem 0xE6 increment (zp nn) s

/-- `INC $nnnn` (R170). -/
def execIncAbs (addr : Word) (s : State) : Result := rmwMem 0xEE increment (absolute addr) s

/-- `INC $nn,X` (R170). -/
def execIncZpx (nn : Byte) (s : State) : Result := rmwMem 0xF6 increment (zpx nn s) s

/-- `INC $nnnn,X` (R170). -/
def execIncAbx (base : Word) (s : State) : Result := rmwMem 0xFE increment (abx base s) s

/-- `DEC $nn` (R171). -/
def execDecZp (nn : Byte) (s : State) : Result := rmwMem 0xC6 decrement (zp nn) s

/-- `DEC $nnnn` (R171). -/
def execDecAbs (addr : Word) (s : State) : Result := rmwMem 0xCE decrement (absolute addr) s

/-- `DEC $nn,X` (R171). -/
def execDecZpx (nn : Byte) (s : State) : Result := rmwMem 0xD6 decrement (zpx nn s) s

/-- `DEC $nnnn,X` (R171). -/
def execDecAbx (base : Word) (s : State) : Result := rmwMem 0xDE decrement (abx base s) s

/-- `INX` (R172). -/
def execInx (s : State) : Result := implied 0xE8 (loadX (s.x + 1) s)

/-- `INY` (R173). -/
def execIny (s : State) : Result := implied 0xC8 (loadY (s.y + 1) s)

/-- `DEX` (R174). -/
def execDex (s : State) : Result := implied 0xCA (loadX (s.x - 1) s)

/-- `DEY` (R175). -/
def execDey (s : State) : Result := implied 0x88 (loadY (s.y - 1) s)

end Sys2Proof.Machine
end

