-- ==== Sys2Proof/Machine/Jump.lean ====
section
/-! DEFINITION. JMP, JSR, RTS (44_control_transfer.md R199 to R201). -/

namespace Sys2Proof.Machine

/-- Push the address of the JSR's last byte, PC - 1, high byte first, then jump (R200). -/
def callSubroutine (target : Word) (s : State) : State := (push16 (s.pc - 1) s).setPc target

/-- Pop a word and continue one past it (R201). -/
def returnFromSubroutine (s : State) : State := (pop16State s).setPc (pop16Value s + 1)

/-- `JMP $nnnn` (R199). -/
def execJmpAbs (addr : Word) (s : State) : Result := implied 0x4C (s.setPc (absolute addr).ea)

/-- `JMP ($nnnn)` (R199). -/
def execJmpInd (ptr : Word) (s : State) : Result := implied 0x6C (s.setPc (indirect ptr s).ea)

/-- `JSR $nnnn` (R200). -/
def execJsr (addr : Word) (s : State) : Result := implied 0x20 (callSubroutine (absolute addr).ea s)

/-- `RTS` (R201). -/
def execRts (s : State) : Result := implied 0x60 (returnFromSubroutine s)

end Sys2Proof.Machine
end

