-- ==== Sys2Proof/Machine/Load.lean ====
section
/-! DEFINITION. The loads LDA, LDX, LDY (41_load_transfer_logic_store.md R140 to R142). -/

namespace Sys2Proof.Machine

/-- `LDA ($nn,X)` (R140). -/
def execLdaIzx (nn : Byte) (s : State) : Result := readMem 0xA1 loadA (izx nn s) s

/-- `LDA $nn` (R140). -/
def execLdaZp (nn : Byte) (s : State) : Result := readMem 0xA5 loadA (zp nn) s

/-- `LDA #$nn` (R140). -/
def execLdaImm (nn : Byte) (s : State) : Result := immediate 0xA9 loadA nn s

/-- `LDA $nnnn` (R140). -/
def execLdaAbs (addr : Word) (s : State) : Result := readMem 0xAD loadA (absolute addr) s

/-- `LDA ($nn),Y` (R140). -/
def execLdaIzy (nn : Byte) (s : State) : Result := readMem 0xB1 loadA (izy nn s) s

/-- `LDA $nn,X` (R140). -/
def execLdaZpx (nn : Byte) (s : State) : Result := readMem 0xB5 loadA (zpx nn s) s

/-- `LDA $nnnn,Y` (R140). -/
def execLdaAby (base : Word) (s : State) : Result := readMem 0xB9 loadA (aby base s) s

/-- `LDA $nnnn,X` (R140). -/
def execLdaAbx (base : Word) (s : State) : Result := readMem 0xBD loadA (abx base s) s

/-- `LDX #$nn` (R141). -/
def execLdxImm (nn : Byte) (s : State) : Result := immediate 0xA2 loadX nn s

/-- `LDX $nn` (R141). -/
def execLdxZp (nn : Byte) (s : State) : Result := readMem 0xA6 loadX (zp nn) s

/-- `LDX $nnnn` (R141). -/
def execLdxAbs (addr : Word) (s : State) : Result := readMem 0xAE loadX (absolute addr) s

/-- `LDX $nn,Y` (R141). -/
def execLdxZpy (nn : Byte) (s : State) : Result := readMem 0xB6 loadX (zpy nn s) s

/-- `LDX $nnnn,Y` (R141). -/
def execLdxAby (base : Word) (s : State) : Result := readMem 0xBE loadX (aby base s) s

/-- `LDY #$nn` (R142). -/
def execLdyImm (nn : Byte) (s : State) : Result := immediate 0xA0 loadY nn s

/-- `LDY $nn` (R142). -/
def execLdyZp (nn : Byte) (s : State) : Result := readMem 0xA4 loadY (zp nn) s

/-- `LDY $nnnn` (R142). -/
def execLdyAbs (addr : Word) (s : State) : Result := readMem 0xAC loadY (absolute addr) s

/-- `LDY $nn,X` (R142). -/
def execLdyZpx (nn : Byte) (s : State) : Result := readMem 0xB4 loadY (zpx nn s) s

/-- `LDY $nnnn,X` (R142). -/
def execLdyAbx (base : Word) (s : State) : Result := readMem 0xBC loadY (abx base s) s

end Sys2Proof.Machine
end

