-- ==== Sys2Proof/Machine/Logic.lean ====
section
/-! DEFINITION. The logic instructions AND, ORA, EOR (41_load_transfer_logic_store.md R143 to R145). -/

namespace Sys2Proof.Machine

/-- `A <- A & m; SetNZ(A)` (R143). -/
def andA (m : Byte) (s : State) : State := loadA (s.a &&& m) s

/-- `A <- A | m; SetNZ(A)` (R144). -/
def orA (m : Byte) (s : State) : State := loadA (s.a ||| m) s

/-- `A <- A ^ m; SetNZ(A)` (R145). -/
def eorA (m : Byte) (s : State) : State := loadA (s.a ^^^ m) s

/-- `AND ($nn,X)` (R143). -/
def execAndIzx (nn : Byte) (s : State) : Result := readMem 0x21 andA (izx nn s) s

/-- `AND $nn` (R143). -/
def execAndZp (nn : Byte) (s : State) : Result := readMem 0x25 andA (zp nn) s

/-- `AND #$nn` (R143). -/
def execAndImm (nn : Byte) (s : State) : Result := immediate 0x29 andA nn s

/-- `AND $nnnn` (R143). -/
def execAndAbs (addr : Word) (s : State) : Result := readMem 0x2D andA (absolute addr) s

/-- `AND ($nn),Y` (R143). -/
def execAndIzy (nn : Byte) (s : State) : Result := readMem 0x31 andA (izy nn s) s

/-- `AND $nn,X` (R143). -/
def execAndZpx (nn : Byte) (s : State) : Result := readMem 0x35 andA (zpx nn s) s

/-- `AND $nnnn,Y` (R143). -/
def execAndAby (base : Word) (s : State) : Result := readMem 0x39 andA (aby base s) s

/-- `AND $nnnn,X` (R143). -/
def execAndAbx (base : Word) (s : State) : Result := readMem 0x3D andA (abx base s) s

/-- `ORA ($nn,X)` (R144). -/
def execOraIzx (nn : Byte) (s : State) : Result := readMem 0x01 orA (izx nn s) s

/-- `ORA $nn` (R144). -/
def execOraZp (nn : Byte) (s : State) : Result := readMem 0x05 orA (zp nn) s

/-- `ORA #$nn` (R144). -/
def execOraImm (nn : Byte) (s : State) : Result := immediate 0x09 orA nn s

/-- `ORA $nnnn` (R144). -/
def execOraAbs (addr : Word) (s : State) : Result := readMem 0x0D orA (absolute addr) s

/-- `ORA ($nn),Y` (R144). -/
def execOraIzy (nn : Byte) (s : State) : Result := readMem 0x11 orA (izy nn s) s

/-- `ORA $nn,X` (R144). -/
def execOraZpx (nn : Byte) (s : State) : Result := readMem 0x15 orA (zpx nn s) s

/-- `ORA $nnnn,Y` (R144). -/
def execOraAby (base : Word) (s : State) : Result := readMem 0x19 orA (aby base s) s

/-- `ORA $nnnn,X` (R144). -/
def execOraAbx (base : Word) (s : State) : Result := readMem 0x1D orA (abx base s) s

/-- `EOR ($nn,X)` (R145). -/
def execEorIzx (nn : Byte) (s : State) : Result := readMem 0x41 eorA (izx nn s) s

/-- `EOR $nn` (R145). -/
def execEorZp (nn : Byte) (s : State) : Result := readMem 0x45 eorA (zp nn) s

/-- `EOR #$nn` (R145). -/
def execEorImm (nn : Byte) (s : State) : Result := immediate 0x49 eorA nn s

/-- `EOR $nnnn` (R145). -/
def execEorAbs (addr : Word) (s : State) : Result := readMem 0x4D eorA (absolute addr) s

/-- `EOR ($nn),Y` (R145). -/
def execEorIzy (nn : Byte) (s : State) : Result := readMem 0x51 eorA (izy nn s) s

/-- `EOR $nn,X` (R145). -/
def execEorZpx (nn : Byte) (s : State) : Result := readMem 0x55 eorA (zpx nn s) s

/-- `EOR $nnnn,Y` (R145). -/
def execEorAby (base : Word) (s : State) : Result := readMem 0x59 eorA (aby base s) s

/-- `EOR $nnnn,X` (R145). -/
def execEorAbx (base : Word) (s : State) : Result := readMem 0x5D eorA (abx base s) s

end Sys2Proof.Machine
end

