-- ==== Sys2Proof/Machine/Shift.lean ====
section
/-! DEFINITION. The shifts and rotates ASL, LSR, ROL, ROR (43_incdec_shift_bit.md R176 to R179). -/

namespace Sys2Proof.Machine

/-- `ASL $nn` (R176). -/
def execAslZp (nn : Byte) (s : State) : Result := rmwMem 0x06 shiftLeft (zp nn) s

/-- `ASL A` (R176). -/
def execAslAcc (s : State) : Result := rmwAcc 0x0A shiftLeft s

/-- `ASL $nnnn` (R176). -/
def execAslAbs (addr : Word) (s : State) : Result := rmwMem 0x0E shiftLeft (absolute addr) s

/-- `ASL $nn,X` (R176). -/
def execAslZpx (nn : Byte) (s : State) : Result := rmwMem 0x16 shiftLeft (zpx nn s) s

/-- `ASL $nnnn,X` (R176). -/
def execAslAbx (base : Word) (s : State) : Result := rmwMem 0x1E shiftLeft (abx base s) s

/-- `LSR $nn` (R177). -/
def execLsrZp (nn : Byte) (s : State) : Result := rmwMem 0x46 shiftRight (zp nn) s

/-- `LSR A` (R177). -/
def execLsrAcc (s : State) : Result := rmwAcc 0x4A shiftRight s

/-- `LSR $nnnn` (R177). -/
def execLsrAbs (addr : Word) (s : State) : Result := rmwMem 0x4E shiftRight (absolute addr) s

/-- `LSR $nn,X` (R177). -/
def execLsrZpx (nn : Byte) (s : State) : Result := rmwMem 0x56 shiftRight (zpx nn s) s

/-- `LSR $nnnn,X` (R177). -/
def execLsrAbx (base : Word) (s : State) : Result := rmwMem 0x5E shiftRight (abx base s) s

/-- `ROL $nn` (R178). -/
def execRolZp (nn : Byte) (s : State) : Result := rmwMem 0x26 rotateLeft (zp nn) s

/-- `ROL A` (R178). -/
def execRolAcc (s : State) : Result := rmwAcc 0x2A rotateLeft s

/-- `ROL $nnnn` (R178). -/
def execRolAbs (addr : Word) (s : State) : Result := rmwMem 0x2E rotateLeft (absolute addr) s

/-- `ROL $nn,X` (R178). -/
def execRolZpx (nn : Byte) (s : State) : Result := rmwMem 0x36 rotateLeft (zpx nn s) s

/-- `ROL $nnnn,X` (R178). -/
def execRolAbx (base : Word) (s : State) : Result := rmwMem 0x3E rotateLeft (abx base s) s

/-- `ROR $nn` (R179). -/
def execRorZp (nn : Byte) (s : State) : Result := rmwMem 0x66 rotateRight (zp nn) s

/-- `ROR A` (R179). -/
def execRorAcc (s : State) : Result := rmwAcc 0x6A rotateRight s

/-- `ROR $nnnn` (R179). -/
def execRorAbs (addr : Word) (s : State) : Result := rmwMem 0x6E rotateRight (absolute addr) s

/-- `ROR $nn,X` (R179). -/
def execRorZpx (nn : Byte) (s : State) : Result := rmwMem 0x76 rotateRight (zpx nn s) s

/-- `ROR $nnnn,X` (R179). -/
def execRorAbx (base : Word) (s : State) : Result := rmwMem 0x7E rotateRight (abx base s) s

end Sys2Proof.Machine
end

