-- ==== Sys2Proof/Machine/Stack.lean ====
section
/-! DEFINITION. PHA, PHP, PLA, PLP (45_stack_system_flags.md R210 to R213). -/

namespace Sys2Proof.Machine

/-- `PHA` (R210). -/
def execPha (s : State) : Result := implied 0x48 (push8 s.a s)

/-- `PHP` (R211). -/
def execPhp (s : State) : Result := implied 0x08 (push8 (stackedP s.p) s)

/-- `PLA` (R212). -/
def execPla (s : State) : Result := implied 0x68 (loadA (pop8Value s) (pop8State s))

/-- `PLP` (R213). -/
def execPlp (s : State) : Result := implied 0x28 ((pop8State s).setP (pop8Value s))

end Sys2Proof.Machine
end

