-- ==== Sys2Proof/Machine/Store.lean ====
section
/-! DEFINITION. The stores STA, STX, STY (41_load_transfer_logic_store.md R152 to R154). -/

namespace Sys2Proof.Machine

/-- `STA ($nn,X)` (R152). -/
def execStaIzx (nn : Byte) (s : State) : Result := storeMem 0x81 s.a (izx nn s) s

/-- `STA $nn` (R152). -/
def execStaZp (nn : Byte) (s : State) : Result := storeMem 0x85 s.a (zp nn) s

/-- `STA $nnnn` (R152). -/
def execStaAbs (addr : Word) (s : State) : Result := storeMem 0x8D s.a (absolute addr) s

/-- `STA ($nn),Y` (R152). -/
def execStaIzy (nn : Byte) (s : State) : Result := storeMem 0x91 s.a (izy nn s) s

/-- `STA $nn,X` (R152). -/
def execStaZpx (nn : Byte) (s : State) : Result := storeMem 0x95 s.a (zpx nn s) s

/-- `STA $nnnn,Y` (R152). -/
def execStaAby (base : Word) (s : State) : Result := storeMem 0x99 s.a (aby base s) s

/-- `STA $nnnn,X` (R152). -/
def execStaAbx (base : Word) (s : State) : Result := storeMem 0x9D s.a (abx base s) s

/-- `STX $nn` (R153). -/
def execStxZp (nn : Byte) (s : State) : Result := storeMem 0x86 s.x (zp nn) s

/-- `STX $nnnn` (R153). -/
def execStxAbs (addr : Word) (s : State) : Result := storeMem 0x8E s.x (absolute addr) s

/-- `STX $nn,Y` (R153). -/
def execStxZpy (nn : Byte) (s : State) : Result := storeMem 0x96 s.x (zpy nn s) s

/-- `STY $nn` (R154). -/
def execStyZp (nn : Byte) (s : State) : Result := storeMem 0x84 s.y (zp nn) s

/-- `STY $nnnn` (R154). -/
def execStyAbs (addr : Word) (s : State) : Result := storeMem 0x8C s.y (absolute addr) s

/-- `STY $nn,X` (R154). -/
def execStyZpx (nn : Byte) (s : State) : Result := storeMem 0x94 s.y (zpx nn s) s

end Sys2Proof.Machine
end

