-- ==== Sys2Proof/Machine/Transfer.lean ====
section
/-! DEFINITION. The register transfers TAX, TAY, TXA, TYA, TSX, TXS (41_load_transfer_logic_store.md R146 to R151). -/

namespace Sys2Proof.Machine

/-- `SP <- X`, and Z and N from X where TXS_UPDATES_NZ holds, as it does for this block (R151). -/
def transferXToSp (s : State) : State :=
  if Config.txsUpdatesNz then (s.setSp s.x).setP (setNZ s.x s.p) else s.setSp s.x

/-- `TAX` (R146). -/
def execTax (s : State) : Result := implied 0xAA (loadX s.a s)

/-- `TAY` (R147). -/
def execTay (s : State) : Result := implied 0xA8 (loadY s.a s)

/-- `TXA` (R148). -/
def execTxa (s : State) : Result := implied 0x8A (loadA s.x s)

/-- `TYA` (R149). -/
def execTya (s : State) : Result := implied 0x98 (loadA s.y s)

/-- `TSX` (R150). -/
def execTsx (s : State) : Result := implied 0xBA (loadX s.sp s)

/-- `TXS` (R151). -/
def execTxs (s : State) : Result := implied 0x9A (transferXToSp s)

end Sys2Proof.Machine
end

