-- ==== Sys2Proof/Machine/Dispatch.lean ====
section
/-! DEFINITION. The dispatch: one arm per constructor of `Instr`, each one call of that instruction's meaning. The state it is
applied to has PC already past the instruction (40_step_and_addressing.md R103). -/
namespace Sys2Proof.Machine

def exec (i : Instr) (s : State) : Host.Outcome State Fault Refusal :=
  match i with
  | .ldaIzx nn => Sys2Proof.Machine.execLdaIzx nn s
  | .ldaZp nn => Sys2Proof.Machine.execLdaZp nn s
  | .ldaImm nn => Sys2Proof.Machine.execLdaImm nn s
  | .ldaAbs addr => Sys2Proof.Machine.execLdaAbs addr s
  | .ldaIzy nn => Sys2Proof.Machine.execLdaIzy nn s
  | .ldaZpx nn => Sys2Proof.Machine.execLdaZpx nn s
  | .ldaAby base => Sys2Proof.Machine.execLdaAby base s
  | .ldaAbx base => Sys2Proof.Machine.execLdaAbx base s
  | .ldxImm nn => Sys2Proof.Machine.execLdxImm nn s
  | .ldxZp nn => Sys2Proof.Machine.execLdxZp nn s
  | .ldxAbs addr => Sys2Proof.Machine.execLdxAbs addr s
  | .ldxZpy nn => Sys2Proof.Machine.execLdxZpy nn s
  | .ldxAby base => Sys2Proof.Machine.execLdxAby base s
  | .ldyImm nn => Sys2Proof.Machine.execLdyImm nn s
  | .ldyZp nn => Sys2Proof.Machine.execLdyZp nn s
  | .ldyAbs addr => Sys2Proof.Machine.execLdyAbs addr s
  | .ldyZpx nn => Sys2Proof.Machine.execLdyZpx nn s
  | .ldyAbx base => Sys2Proof.Machine.execLdyAbx base s
  | .andIzx nn => Sys2Proof.Machine.execAndIzx nn s
  | .andZp nn => Sys2Proof.Machine.execAndZp nn s
  | .andImm nn => Sys2Proof.Machine.execAndImm nn s
  | .andAbs addr => Sys2Proof.Machine.execAndAbs addr s
  | .andIzy nn => Sys2Proof.Machine.execAndIzy nn s
  | .andZpx nn => Sys2Proof.Machine.execAndZpx nn s
  | .andAby base => Sys2Proof.Machine.execAndAby base s
  | .andAbx base => Sys2Proof.Machine.execAndAbx base s
  | .oraIzx nn => Sys2Proof.Machine.execOraIzx nn s
  | .oraZp nn => Sys2Proof.Machine.execOraZp nn s
  | .oraImm nn => Sys2Proof.Machine.execOraImm nn s
  | .oraAbs addr => Sys2Proof.Machine.execOraAbs addr s
  | .oraIzy nn => Sys2Proof.Machine.execOraIzy nn s
  | .oraZpx nn => Sys2Proof.Machine.execOraZpx nn s
  | .oraAby base => Sys2Proof.Machine.execOraAby base s
  | .oraAbx base => Sys2Proof.Machine.execOraAbx base s
  | .eorIzx nn => Sys2Proof.Machine.execEorIzx nn s
  | .eorZp nn => Sys2Proof.Machine.execEorZp nn s
  | .eorImm nn => Sys2Proof.Machine.execEorImm nn s
  | .eorAbs addr => Sys2Proof.Machine.execEorAbs addr s
  | .eorIzy nn => Sys2Proof.Machine.execEorIzy nn s
  | .eorZpx nn => Sys2Proof.Machine.execEorZpx nn s
  | .eorAby base => Sys2Proof.Machine.execEorAby base s
  | .eorAbx base => Sys2Proof.Machine.execEorAbx base s
  | .tax => Sys2Proof.Machine.execTax s
  | .tay => Sys2Proof.Machine.execTay s
  | .txa => Sys2Proof.Machine.execTxa s
  | .tya => Sys2Proof.Machine.execTya s
  | .tsx => Sys2Proof.Machine.execTsx s
  | .txs => Sys2Proof.Machine.execTxs s
  | .staIzx nn => Sys2Proof.Machine.execStaIzx nn s
  | .staZp nn => Sys2Proof.Machine.execStaZp nn s
  | .staAbs addr => Sys2Proof.Machine.execStaAbs addr s
  | .staIzy nn => Sys2Proof.Machine.execStaIzy nn s
  | .staZpx nn => Sys2Proof.Machine.execStaZpx nn s
  | .staAby base => Sys2Proof.Machine.execStaAby base s
  | .staAbx base => Sys2Proof.Machine.execStaAbx base s
  | .stxZp nn => Sys2Proof.Machine.execStxZp nn s
  | .stxAbs addr => Sys2Proof.Machine.execStxAbs addr s
  | .stxZpy nn => Sys2Proof.Machine.execStxZpy nn s
  | .styZp nn => Sys2Proof.Machine.execStyZp nn s
  | .styAbs addr => Sys2Proof.Machine.execStyAbs addr s
  | .styZpx nn => Sys2Proof.Machine.execStyZpx nn s
  | .adcIzx nn => Sys2Proof.Machine.execAdcIzx nn s
  | .adcZp nn => Sys2Proof.Machine.execAdcZp nn s
  | .adcImm nn => Sys2Proof.Machine.execAdcImm nn s
  | .adcAbs addr => Sys2Proof.Machine.execAdcAbs addr s
  | .adcIzy nn => Sys2Proof.Machine.execAdcIzy nn s
  | .adcZpx nn => Sys2Proof.Machine.execAdcZpx nn s
  | .adcAby base => Sys2Proof.Machine.execAdcAby base s
  | .adcAbx base => Sys2Proof.Machine.execAdcAbx base s
  | .sbcIzx nn => Sys2Proof.Machine.execSbcIzx nn s
  | .sbcZp nn => Sys2Proof.Machine.execSbcZp nn s
  | .sbcImm nn => Sys2Proof.Machine.execSbcImm nn s
  | .sbcAbs addr => Sys2Proof.Machine.execSbcAbs addr s
  | .sbcIzy nn => Sys2Proof.Machine.execSbcIzy nn s
  | .sbcZpx nn => Sys2Proof.Machine.execSbcZpx nn s
  | .sbcAby base => Sys2Proof.Machine.execSbcAby base s
  | .sbcAbx base => Sys2Proof.Machine.execSbcAbx base s
  | .cmpIzx nn => Sys2Proof.Machine.execCmpIzx nn s
  | .cmpZp nn => Sys2Proof.Machine.execCmpZp nn s
  | .cmpImm nn => Sys2Proof.Machine.execCmpImm nn s
  | .cmpAbs addr => Sys2Proof.Machine.execCmpAbs addr s
  | .cmpIzy nn => Sys2Proof.Machine.execCmpIzy nn s
  | .cmpZpx nn => Sys2Proof.Machine.execCmpZpx nn s
  | .cmpAby base => Sys2Proof.Machine.execCmpAby base s
  | .cmpAbx base => Sys2Proof.Machine.execCmpAbx base s
  | .cpxImm nn => Sys2Proof.Machine.execCpxImm nn s
  | .cpxZp nn => Sys2Proof.Machine.execCpxZp nn s
  | .cpxAbs addr => Sys2Proof.Machine.execCpxAbs addr s
  | .cpyImm nn => Sys2Proof.Machine.execCpyImm nn s
  | .cpyZp nn => Sys2Proof.Machine.execCpyZp nn s
  | .cpyAbs addr => Sys2Proof.Machine.execCpyAbs addr s
  | .incZp nn => Sys2Proof.Machine.execIncZp nn s
  | .incAbs addr => Sys2Proof.Machine.execIncAbs addr s
  | .incZpx nn => Sys2Proof.Machine.execIncZpx nn s
  | .incAbx base => Sys2Proof.Machine.execIncAbx base s
  | .decZp nn => Sys2Proof.Machine.execDecZp nn s
  | .decAbs addr => Sys2Proof.Machine.execDecAbs addr s
  | .decZpx nn => Sys2Proof.Machine.execDecZpx nn s
  | .decAbx base => Sys2Proof.Machine.execDecAbx base s
  | .inx => Sys2Proof.Machine.execInx s
  | .iny => Sys2Proof.Machine.execIny s
  | .dex => Sys2Proof.Machine.execDex s
  | .dey => Sys2Proof.Machine.execDey s
  | .aslZp nn => Sys2Proof.Machine.execAslZp nn s
  | .aslAcc => Sys2Proof.Machine.execAslAcc s
  | .aslAbs addr => Sys2Proof.Machine.execAslAbs addr s
  | .aslZpx nn => Sys2Proof.Machine.execAslZpx nn s
  | .aslAbx base => Sys2Proof.Machine.execAslAbx base s
  | .lsrZp nn => Sys2Proof.Machine.execLsrZp nn s
  | .lsrAcc => Sys2Proof.Machine.execLsrAcc s
  | .lsrAbs addr => Sys2Proof.Machine.execLsrAbs addr s
  | .lsrZpx nn => Sys2Proof.Machine.execLsrZpx nn s
  | .lsrAbx base => Sys2Proof.Machine.execLsrAbx base s
  | .rolZp nn => Sys2Proof.Machine.execRolZp nn s
  | .rolAcc => Sys2Proof.Machine.execRolAcc s
  | .rolAbs addr => Sys2Proof.Machine.execRolAbs addr s
  | .rolZpx nn => Sys2Proof.Machine.execRolZpx nn s
  | .rolAbx base => Sys2Proof.Machine.execRolAbx base s
  | .rorZp nn => Sys2Proof.Machine.execRorZp nn s
  | .rorAcc => Sys2Proof.Machine.execRorAcc s
  | .rorAbs addr => Sys2Proof.Machine.execRorAbs addr s
  | .rorZpx nn => Sys2Proof.Machine.execRorZpx nn s
  | .rorAbx base => Sys2Proof.Machine.execRorAbx base s
  | .bitZp nn => Sys2Proof.Machine.execBitZp nn s
  | .bitAbs addr => Sys2Proof.Machine.execBitAbs addr s
  | .bcc disp => Sys2Proof.Machine.execBcc disp s
  | .bcs disp => Sys2Proof.Machine.execBcs disp s
  | .beq disp => Sys2Proof.Machine.execBeq disp s
  | .bne disp => Sys2Proof.Machine.execBne disp s
  | .bmi disp => Sys2Proof.Machine.execBmi disp s
  | .bpl disp => Sys2Proof.Machine.execBpl disp s
  | .bvc disp => Sys2Proof.Machine.execBvc disp s
  | .bvs disp => Sys2Proof.Machine.execBvs disp s
  | .jmpAbs addr => Sys2Proof.Machine.execJmpAbs addr s
  | .jmpInd ptr => Sys2Proof.Machine.execJmpInd ptr s
  | .jsr addr => Sys2Proof.Machine.execJsr addr s
  | .rts => Sys2Proof.Machine.execRts s
  | .pha => Sys2Proof.Machine.execPha s
  | .php => Sys2Proof.Machine.execPhp s
  | .pla => Sys2Proof.Machine.execPla s
  | .plp => Sys2Proof.Machine.execPlp s
  | .brk => Sys2Proof.Machine.execBrk s
  | .rti => Sys2Proof.Machine.execRti s
  | .sec => Sys2Proof.Machine.execSec s
  | .clc => Sys2Proof.Machine.execClc s
  | .sei => Sys2Proof.Machine.execSei s
  | .cli => Sys2Proof.Machine.execCli s
  | .sed => Sys2Proof.Machine.execSed s
  | .cld => Sys2Proof.Machine.execCld s
  | .clv => Sys2Proof.Machine.execClv s
  | .nop => Sys2Proof.Machine.execNop s

end Sys2Proof.Machine
end

