-- ==== Sys2Proof/Machine/Fetch.lean ====
section
/-! DEFINITION. Fetch and decode at PC (40_step_and_addressing.md R101 to R103), the advance of PC past the instruction, the step
around an execute phase, and laying an instruction's bytes where the next fetch reads them. -/

namespace Sys2Proof.Machine

/-- The instruction whose bytes stand at PC and the two addresses after it, modulo 65,536; `none` where the byte at PC spells no
instruction. The two operand bytes are read whatever the format, which nothing can observe (20_memory.md R47, log 20). -/
def fetchInstr (s : State) : Option Instr :=
  decodeBytes (s.readByte s.pc) (s.readByte (s.pc + 1)) (s.readByte (s.pc + 2))

/-- PC past the opcode and operand bytes: `(addr0 + size) mod 65536` (R103). -/
def advancePc (i : Instr) (s : State) : State := s.setPc (s.pc + BitVec.ofNat 16 i.size)

/-- One step whose phases 3 to 6 are `execute` (R100). A stopped core rests (60_exceptions.md R234, log 5). A running core fetches
at PC; a byte that spells no instruction halts it (R102, R231, log 6); otherwise PC moves past the instruction and the instruction
executes and is accounted for (R103, R118 to R121). -/
def stepBy (execute : Instr → State → Result) (s : State) : Result :=
  match s.run with
  | .stopped _ => .next s
  | .running =>
    match fetchInstr s with
    | none => .next (haltIllegal s)
    | some i => execute i (advancePc i s)

/-- Three bytes stored at PC and the two addresses after it. -/
def layAtPc (b0 b1 b2 : Byte) (s : State) : State :=
  ((s.writeByte s.pc b0).writeByte (s.pc + 1) b1).writeByte (s.pc + 2) b2

end Sys2Proof.Machine
end

