-- ==== Sys2Proof/Machine/Step.lean ====
section
/-! DEFINITION. One step of the core: phases 1 to 6 of 40_step_and_addressing.md R100. Phase 7, the evaluator, belongs to the run
(Machine/Run.lean, log 7). -/

namespace Sys2Proof.Machine

/-- One step, its cycles counted by the default table (R119, log 10); `stepWith` of Machine/CycleTable.lean takes any table. -/
def step (s : State) : Host.Outcome State Fault Refusal := stepBy exec s

/-- `s` with the table's word laid at PC and the core running, so that the next step runs exactly that instruction: it stands for
the host's Load and Run (log 4). -/
def State.withFetchWord (s : State) (nbits w : Nat) : State :=
  (layAtPc (tableBytes nbits w).1 (tableBytes nbits w).2.1 (tableBytes nbits w).2.2 s).setRun .running

end Sys2Proof.Machine
end

