-- ==== Sys2Proof/Machine/HostMoves.lean ====
section
/-! DEFINITION. The host's moves between steps, but for Run (70_reset_and_hazards.md R263): Reset, Load, SetReg, GetReg, and the
memory primitives of 20_memory.md R41 to R45. -/

namespace Sys2Proof.Machine

/-- `Reset(RESET_PC)` applied to a state: it does not depend on the state but for memory, which it keeps (R260, R261). The values of A,
X, Y, SP and P after it are unspecified and so are arguments. -/
def State.resetMove (resetPc : Word) (a x y sp p : Byte) (s : State) : State :=
  State.resetWith resetPc a x y sp p s.mem

/-- `Load(a, b)`: the bytes at `a` and on, modulo 65,536, in ascending order (20_memory.md R59). -/
def State.load (a : Word) (bs : List Byte) (s : State) : State :=
  match bs with
  | [] => s
  | b :: rest => State.load (a + 1) rest (s.writeByte a b)

/-- What Load reports: the address and the length (R263). -/
def loadReport (a : Word) (bs : List Byte) : Word × Nat := (a, bs.length)

/-- The registers the host can read and write (R263). -/
inductive Reg where
  | a | x | y | sp | p | pc | cyc | ins
  deriving DecidableEq, Repr

/-- The width of a register. -/
def Reg.width : Reg → Nat
  | .a | .x | .y | .sp | .p => 8
  | .pc => 16
  | .cyc | .ins => 64

/-- `GetReg(r)` (R263). -/
def State.getReg (s : State) : (r : Reg) → BitVec r.width
  | .a => s.a
  | .x => s.x
  | .y => s.y
  | .sp => s.sp
  | .p => s.p
  | .pc => s.pc
  | .cyc => s.cyc
  | .ins => s.ins

/-- `SetReg(r, v)` (R263). RUN is not among the registers: the host sets it only through Reset and Run. -/
def State.setReg : (r : Reg) → BitVec r.width → State → State
  | .a, v, s => s.setA v
  | .x, v, s => s.setX v
  | .y, v, s => s.setY v
  | .sp, v, s => s.setSp v
  | .p, v, s => s.setP v
  | .pc, v, s => s.setPc v
  | .cyc, v, s => s.setCyc v
  | .ins, v, s => s.setIns v

/-- `IsBitSet(addr, i)`: bit 0 is the least significant (20_memory.md R45). -/
def State.isBitSet (s : State) (a : Word) (i : Fin 8) : Bool := (s.readByte a).getLsbD i.val

/-- `SetBit(addr, i)` (20_memory.md R45). -/
def State.setBit (a : Word) (i : Fin 8) (s : State) : State :=
  s.writeByte a (s.readByte a ||| BitVec.twoPow 8 i.val)

/-- `ClearBit(addr, i)` (20_memory.md R45). -/
def State.clearBit (a : Word) (i : Fin 8) (s : State) : State :=
  s.writeByte a (s.readByte a &&& ~~~(BitVec.twoPow 8 i.val))

/-- The numeric code of a stop reason (10_state.md R22). -/
def StopReason.code : StopReason → Nat
  | .notStarted => 0
  | .illegalOpcode _ _ => 1
  | .maxInstructions => 2
  | .opcodeReached _ => 3
  | .predicate => 4

end Sys2Proof.Machine
end

