-- ==== Sys2Proof/Machine/CycleTable.lean ====
section
/-! DEFINITION. The parameter BaseCycles as an argument (00_scope.md R5, 92_eei_decisions.md D11): executing and stepping with any
cycle table in the place of the default. A count is only ever added to CYC (40_step_and_addressing.md R119, R120;
70_reset_and_hazards.md R267), so a table in place of the default changes what CYC receives and nothing else. -/

namespace Sys2Proof.Machine

/-- A result with its next state changed by `f`. -/
def onNext (f : State → State) : Result → Result
  | .next t => .next (f t)
  | .fault r => .fault r
  | .refused r => .refused r

/-- In CYC, modulo 2^64, the count `table` gives the opcode byte stands for the count the default gives it (R119, R120). -/
def recount (table : BaseCycles) (op : Byte) (s : State) : State :=
  s.setCyc (s.cyc - BitVec.ofNat 64 (baseCycles op) + BitVec.ofNat 64 (table op))

/-- `exec`, the cycles counted by `table`: `cycles = table[op] + extra` (R119). -/
def execWith (table : BaseCycles) (i : Instr) (s : State) : Result := onNext (recount table i.opcode) (exec i s)

/-- `step`, the cycles counted by `table`. -/
def stepWith (table : BaseCycles) (s : State) : Result := stepBy (execWith table) s

end Sys2Proof.Machine
end

