-- ==== Sys2Proof/Machine/Run.lean ====
section
/-! DEFINITION. The host's Run move: the execution loop with its termination evaluator (60_exceptions.md R245 to R250). The cycle
table is a parameter of the run (00_scope.md R5, R9). The evaluator and the count `k` belong to the run and are no part of `State`
(10_state.md R25). -/

namespace Sys2Proof.Machine

/-- The stop condition of a run (R245). A predicate is a pure total function of the state (R248, log 19). -/
inductive Evaluator where
  | maxInstructions (n : Counter)
  | opcodeReached (t : Byte)
  | predicate (f : State → Bool)
  | forever

/-- `n >= 1` is a precondition of `MaxInstructions(n)` (R246). -/
def Evaluator.wf : Evaluator → Bool
  | .maxInstructions n => n != 0
  | .opcodeReached _ | .predicate _ | .forever => true

/-- Phase 7: the evaluator's answer after the `k`-th completed instruction of the run (R245 to R249). -/
def evaluate (ev : Evaluator) (k : Nat) (s : State) : Option StopReason :=
  match ev with
  | .maxInstructions n => if n.toNat ≤ k then some .maxInstructions else none
  | .opcodeReached t => if s.readByte s.pc = t then some (.opcodeReached t) else none
  | .predicate f => if f s then some .predicate else none
  | .forever => none

/-- What a run gives within its fuel: the final state, the state it has come to with the fuel spent, or a stop. -/
inductive RunResult where
  | returned (s : State)
  | outOfFuel (s : State)
  | faulted (r : Fault)
  | refused (r : Refusal)
  deriving DecidableEq, Repr

/-- The loop after `k` completed instructions: a step; if it halted the core the evaluator is not consulted (R231, R233); else the
evaluator may stop it. -/
def runLoop (table : BaseCycles) (ev : Evaluator) : Nat → Nat → State → RunResult
  | 0, _, s => .outOfFuel s
  | fuel + 1, k, s =>
    match stepWith table s with
    | .fault r => .faulted r
    | .refused r => .refused r
    | .next t =>
      match t.run with
      | .stopped _ => .returned t
      | .running =>
        match evaluate ev (k + 1) t with
        | some r => .returned (t.setRun (.stopped r))
        | none => runLoop table ev fuel (k + 1) t

/-- `Run(ev)` with a cycle table and a bound on the number of steps (R245, R119); `baseCycles` is the default table. -/
def run (table : BaseCycles) (ev : Evaluator) (fuel : Nat) (s : State) : RunResult :=
  if ev.wf then runLoop table ev fuel 0 (s.setRun .running) else .refused .maxInstructionsZero

end Sys2Proof.Machine
end

