-- ==== Sys2Proof/Safety.lean ====
section
/-! DEFINITION. What counts as a sound state and as the end of a run, in the terms the claims use (60_exceptions.md R251). -/

namespace Sys2Proof.Machine

/-- The invariant of the model: memory is in canonical form. -/
def State.wf (s : State) : Bool := Memory.wf s.mem

/-- A bad end: the core halted on an illegal opcode (R251). -/
def State.badEnd (s : State) : Bool :=
  match s.run with
  | .stopped (.illegalOpcode _ _) => true
  | .stopped .notStarted | .stopped .maxInstructions | .stopped (.opcodeReached _) | .stopped .predicate | .running => false

/-- A good end: the run stopped by a condition the host chose (R251). -/
def State.goodEnd (s : State) : Bool :=
  match s.run with
  | .stopped .maxInstructions | .stopped (.opcodeReached _) | .stopped .predicate => true
  | .stopped .notStarted | .stopped (.illegalOpcode _ _) | .running => false

end Sys2Proof.Machine
end

