-- ==== Sys2Proof/Certificates/Slice0/Obligations.lean ====
section
/-! DEFINITION. The statements for the provers, each a numbered rule of the spec or what follows from several. First the terms they
are written in: they name the registers, the bits of P, the bytes stored and the counters after an instruction one by one, so that a
statement of a result is a statement of its frame and of its completion too. -/

namespace Sys2Proof.Claims

open Sys2Proof Sys2Proof.Machine

/-- The programmer's registers other than P. -/
structure Regs where
  a : Byte
  x : Byte
  y : Byte
  sp : Byte
  pc : Word
  deriving DecidableEq, Repr

/-- The registers of a state. -/
def regsOf (s : State) : Regs := { a := s.a, x := s.x, y := s.y, sp := s.sp, pc := s.pc }

/-- Every bit of P after: a bit listed has the value listed, every other bit is as before. -/
def StatusAfter (written : List (Nat × Bool)) (s t : State) : Prop :=
  ∀ k, k < 8 → t.p.getLsbD k = (written.lookup k).getD (s.p.getLsbD k)

/-- Every byte of memory after: an address listed holds the byte listed, every other address reads as before. -/
def MemoryAfter (stored : List (Word × Byte)) (s t : State) : Prop :=
  ∀ a : Word, t.readByte a = (stored.lookup a).getD (s.readByte a)

/-- From `s`, whose PC is past the instruction, `i` completes: exec answers a next state with exactly these registers, these bits of
P written, these bytes stored, CYC grown by `cycles`, INS by one, and RUN as before. -/
def Leaves (s : State) (i : Instr) (regs : Regs) (written : List (Nat × Bool)) (stored : List (Word × Byte)) (cycles : Nat) : Prop :=
  ∃ t, exec i s = .next t ∧ regsOf t = regs ∧ StatusAfter written s t ∧ MemoryAfter stored s t ∧
    t.cyc = s.cyc + BitVec.ofNat 64 cycles ∧ t.ins = s.ins + 1 ∧ t.run = s.run

/-- Z and N of a result byte, at their bits of P (R124, R16). -/
def nzBits (v : Byte) : List (Nat × Bool) := [(1, decide (v = 0)), (7, v.getLsbD 7)]

/-- A form with this code that loads A with `v`. -/
def LoadsA (s : State) (i : Instr) (code : List Byte) (v : Byte) (cycles : Nat) : Prop :=
  encode i = code ∧ Leaves s i { regsOf s with a := v } (nzBits v) [] cycles

/-- A form with this code that loads X with `v`. -/
def LoadsX (s : State) (i : Instr) (code : List Byte) (v : Byte) (cycles : Nat) : Prop :=
  encode i = code ∧ Leaves s i { regsOf s with x := v } (nzBits v) [] cycles

/-- A form with this code that loads Y with `v`. -/
def LoadsY (s : State) (i : Instr) (code : List Byte) (v : Byte) (cycles : Nat) : Prop :=
  encode i = code ∧ Leaves s i { regsOf s with y := v } (nzBits v) [] cycles

/-- A form with this code that ands `m` into A. -/
def AndsA (s : State) (i : Instr) (code : List Byte) (m : Byte) (cycles : Nat) : Prop := LoadsA s i code (s.a &&& m) cycles

/-- A form with this code that ors `m` into A. -/
def OrsA (s : State) (i : Instr) (code : List Byte) (m : Byte) (cycles : Nat) : Prop := LoadsA s i code (s.a ||| m) cycles

/-- A form with this code that exclusive-ors `m` into A. -/
def XorsA (s : State) (i : Instr) (code : List Byte) (m : Byte) (cycles : Nat) : Prop := LoadsA s i code (s.a ^^^ m) cycles

/-- A form with this code that stores the byte `v` at `ea` and changes nothing else. -/
def StoresAt (s : State) (i : Instr) (code : List Byte) (ea : Word) (v : Byte) (cycles : Nat) : Prop :=
  encode i = code ∧ Leaves s i (regsOf s) [] [(ea, v)] cycles

/-- What ADC of `m` writes: A, and C, V, Z, N at their bits (R160). -/
def adcOutcome (s : State) (m : Byte) : Byte × List (Nat × Bool) :=
  if s.p.getLsbD 3 = false then
    let sum := s.a.toNat + m.toNat + (s.p.getLsbD 0).toNat
    let r : Byte := BitVec.ofNat 8 (sum % 256)
    (r, [(0, decide (sum > 255)), (6, decide (s.a.getLsbD 7 = m.getLsbD 7 ∧ r.getLsbD 7 ≠ s.a.getLsbD 7)),
      (1, decide (r = 0)), (7, r.getLsbD 7)])
  else
    let q := Config.decAdc s.a m (s.p.getLsbD 0)
    (q.r, [(0, q.c), (1, q.z), (7, q.n), (6, q.v)])

/-- What SBC of `m` writes: A, and C, V, Z, N at their bits (R161). -/
def sbcOutcome (s : State) (m : Byte) : Byte × List (Nat × Bool) :=
  if s.p.getLsbD 3 = false then
    let diff : Int := s.a.toNat - m.toNat - (1 - (s.p.getLsbD 0).toNat)
    let r : Byte := BitVec.ofNat 8 (diff % 256).toNat
    (r, [(0, decide (diff ≥ 0)), (6, decide (s.a.getLsbD 7 ≠ m.getLsbD 7 ∧ r.getLsbD 7 ≠ s.a.getLsbD 7)),
      (1, decide (r = 0)), (7, r.getLsbD 7)])
  else
    let q := Config.decSbc s.a m (s.p.getLsbD 0)
    (q.r, [(0, q.c), (1, q.z), (7, q.n), (6, q.v)])

/-- A form with this code that adds `m` and the carry to A. -/
def AddsA (s : State) (i : Instr) (code : List Byte) (m : Byte) (cycles : Nat) : Prop :=
  encode i = code ∧ Leaves s i { regsOf s with a := (adcOutcome s m).1 } (adcOutcome s m).2 [] cycles

/-- A form with this code that subtracts `m` and the borrow from A. -/
def SubtractsA (s : State) (i : Instr) (code : List Byte) (m : Byte) (cycles : Nat) : Prop :=
  encode i = code ∧ Leaves s i { regsOf s with a := (sbcOutcome s m).1 } (sbcOutcome s m).2 [] cycles

/-- C, Z and N of a compare of `reg` with `m` (R163). -/
def compareBits (reg m : Byte) : List (Nat × Bool) :=
  [(0, decide (reg.toNat ≥ m.toNat)), (1, decide (reg = m)), (7, (reg - m).getLsbD 7)]

/-- A form with this code that compares `reg` with `m`. -/
def ComparesWith (reg : Byte) (s : State) (i : Instr) (code : List Byte) (m : Byte) (cycles : Nat) : Prop :=
  encode i = code ∧ Leaves s i (regsOf s) (compareBits reg m) [] cycles

/-- A form with this code that tests `m` against A (R180). -/
def TestsBits (s : State) (i : Instr) (code : List Byte) (m : Byte) (cycles : Nat) : Prop :=
  encode i = code ∧ Leaves s i (regsOf s) [(1, decide (s.a &&& m = 0)), (7, m.getLsbD 7), (6, m.getLsbD 6)] [] cycles

/-- A memory form with this code that replaces the byte at `ea` by `f` of it and writes Z and N from the result, and C as given. -/
def Rewrites (f : Byte → Byte) (carry : Byte → List (Nat × Bool)) (s : State) (i : Instr) (code : List Byte) (ea : Word)
    (cycles : Nat) : Prop :=
  encode i = code ∧ Leaves s i (regsOf s) (carry (s.readByte ea) ++ nzBits (f (s.readByte ea))) [(ea, f (s.readByte ea))] cycles

/-- The accumulator form of the same. -/
def RewritesA (f : Byte → Byte) (carry : Byte → List (Nat × Bool)) (s : State) (i : Instr) (code : List Byte) (cycles : Nat) : Prop :=
  encode i = code ∧ Leaves s i { regsOf s with a := f s.a } (carry s.a ++ nzBits (f s.a)) [] cycles

/-- C is not written. -/
def keepsCarry (_ : Byte) : List (Nat × Bool) := []

/-- C receives bit 7, shifted out to the left. -/
def carryFromTop (v : Byte) : List (Nat × Bool) := [(0, v.getLsbD 7)]

/-- C receives bit 0, shifted out to the right. -/
def carryFromBottom (v : Byte) : List (Nat × Bool) := [(0, v.getLsbD 0)]

/-- ASL's result (R176). -/
def aslOf (v : Byte) : Byte := BitVec.ofNat 8 (v.toNat * 2 % 256)

/-- LSR's result (R177). -/
def lsrOf (v : Byte) : Byte := BitVec.ofNat 8 (v.toNat / 2)

/-- ROL's result with carry in `cin` (R178). -/
def rolOf (cin : Bool) (v : Byte) : Byte := BitVec.ofNat 8 (v.toNat * 2 % 256 + cin.toNat)

/-- ROR's result with carry in `cin` (R179). -/
def rorOf (cin : Bool) (v : Byte) : Byte := BitVec.ofNat 8 (v.toNat / 2 + cin.toNat * 128)

/-- A branch with this code on `cond`: not taken it leaves PC and costs 2; taken it goes to `next + sext_16(nn)` and costs 3, or 4 when
the target is in another page than `next` (R190). -/
def BranchesOn (cond : Bool) (s : State) (i : Instr) (code : List Byte) (nn : Byte) : Prop :=
  encode i = code ∧
    let target : Word := if nn.getLsbD 7 = false then s.pc + nn.setWidth 16 else s.pc + nn.setWidth 16 + 0xFF00
    Leaves s i { regsOf s with pc := if cond then target else s.pc } [] []
      (if cond then (if target.toNat / 256 = s.pc.toNat / 256 then 3 else 4) else 2)

/-- The address `0x0100 + sp` (R13). -/
def stackByte (sp : Byte) : Word := BitVec.ofNat 16 (256 + sp.toNat)

/-- P with Break and Unused forced to 1 (R18). -/
def pushedStatus (p : Byte) : Byte := p ||| 0x30

/-- A form with this code that writes one bit of P and nothing else. -/
def WritesOneFlag (k : Nat) (b : Bool) (s : State) (i : Instr) (code : List Byte) : Prop :=
  encode i = code ∧ Leaves s i (regsOf s) [(k, b)] [] 2

/-- The mnemonics that have a mode are exactly those listed. -/
def UsedBy (mode : AddrMode) (ms : List Mnemonic) : Prop :=
  (∀ i : Instr, i.mode = mode → i.mnemonic ∈ ms) ∧ ∀ m, m ∈ ms → ∃ i : Instr, i.mode = mode ∧ i.mnemonic = m

/-- The stop condition does not look at CYC. -/
def IgnoresCyc : Evaluator → Prop
  | .predicate f => ∀ (s : State) (c : Counter), f { s with cyc := c } = f s
  | .maxInstructions _ | .opcodeReached _ | .forever => True

/-- Two results that differ in CYC at most. -/
def SameButCyc : RunResult → RunResult → Prop
  | .returned s, .returned t => ∃ c, t = { s with cyc := c }
  | .outOfFuel s, .outOfFuel t => ∃ c, t = { s with cyc := c }
  | .faulted r, .faulted q => r = q
  | .refused r, .refused q => r = q
  | _, _ => False

end Sys2Proof.Claims

open Sys2Proof Sys2Proof.Machine Sys2Proof.Claims

/-- O1. Decoding the code of any instruction, whatever bytes follow it, gives that instruction back (30_encoding.md R70, 30_encoding.md R72, 30_encoding.md R75). -/
def Obligations.DecodeOfEncodeGivesInstruction : Prop :=
  ∀ (i : Instr) (rest : List Byte), decode (encode i ++ rest) = .ok i rest

/-- O2. Bytes that decode are the code of what they decode to: no two byte sequences spell one instruction (30_encoding.md R70, 30_encoding.md R73, 30_encoding.md R75). -/
def Obligations.DecodedBytesAreTheCode : Prop :=
  ∀ (bs : List Byte) (i : Instr) (rest : List Byte), decode bs = .ok i rest → bs = encode i ++ rest

/-- O3. Exactly the 105 listed opcode bytes are refused, whatever bytes follow them (R77). -/
def Obligations.ListedBytesSpellNoInstruction : Prop :=
  (∀ op lo hi : Byte, decodeBytes op lo hi = none ↔ op.toNat ∈ illegalOpcodes) ∧ illegalOpcodes.length = 105 ∧
    ∀ (op : Byte) (bs : List Byte), op.toNat ∈ illegalOpcodes → decode (op :: bs) = .illegalOpcode op

/-- O4. The code of an instruction is well-formed code of the length its mode and its opcode byte give (30_encoding.md R70, 30_encoding.md R71, 30_encoding.md R73). -/
def Obligations.CodeLengthIsTheModeSize : Prop :=
  ∀ i : Instr, (encode i).length = i.size ∧ i.size = codeLength i.opcode ∧ wellFormedCode (encode i) = true ∧
    ∀ n, n < i.size → decode ((encode i).take n) = .empty ∨ decode ((encode i).take n) = .truncated i.opcode

/-- O5. Words written out from the table decode to the instructions they stand for (30_encoding.md R75, 30_encoding.md R76, 95_test_vectors.md section 2). -/
def Obligations.SampleWordsDecode : Prop :=
  decode [0xA9, 0x2A] = .ok (.ldaImm 0x2A) [] ∧
    decode [0x6C, 0xFF, 0x12] = .ok (.jmpInd 0x12FF) [] ∧
    decode [0x9D, 0xFF, 0x12, 0x00] = .ok (.staAbx 0x12FF) [0x00] ∧
    decode [0x0A] = .ok .aslAcc [] ∧
    decode [0x00, 0xFF] = .ok .brk [0xFF] ∧
    decode [0xD0, 0xF9] = .ok (.bne 0xF9) [] ∧
    decode [0xB6, 0x10] = .ok (.ldxZpy 0x10) [] ∧
    decode [0x71, 0x40] = .ok (.adcIzy 0x40) [] ∧
    decode [0x80, 0x00] = .illegalOpcode 0x80 ∧
    decode [0xAD, 0x34] = .truncated 0xAD

/-- O6. A running core whose bytes at PC are the code of an instruction runs that instruction with PC past it (R101, R103). -/
def Obligations.StepRunsTheDecodedInstruction : Prop :=
  ∀ (s : State) (i : Instr), s.run = .running →
    (∀ n (h : n < (encode i).length), s.readByte (s.pc + BitVec.ofNat 16 n) = (encode i)[n]) →
    step s = exec i { s with pc := s.pc + BitVec.ofNat 16 i.size }

/-- O7. An illegal opcode byte at PC halts the core and changes nothing but RUN (R231). -/
def Obligations.IllegalOpcodeHaltsPrecisely : Prop :=
  ∀ s : State, s.run = .running → (s.readByte s.pc).toNat ∈ illegalOpcodes →
    step s = .next { s with run := .stopped (.illegalOpcode (s.readByte s.pc) s.pc) } ∧
    ∀ (table : BaseCycles) (ev : Evaluator) (fuel : Nat), ev.wf = true →
      run table ev (fuel + 1) s = .returned { s with run := .stopped (.illegalOpcode (s.readByte s.pc) s.pc) }

/-- O8. A stopped core does nothing until the next Run, and rerunning after an illegal-opcode halt halts again (60_exceptions.md R234, 60_exceptions.md R245, 60_exceptions.md R249, assumption log 5). That the step of a stopped core answers the same state is the model's reading (log 5). -/
def Obligations.StoppedCoreRests : Prop :=
  (∀ (s : State) (r : StopReason), s.run = .stopped r → step s = .next s) ∧
    (∀ (table : BaseCycles) (s : State) (ev : Evaluator) (fuel : Nat), ev.wf = true → (s.readByte s.pc).toNat ∈ illegalOpcodes →
      s.run = .stopped (.illegalOpcode (s.readByte s.pc) s.pc) → run table ev (fuel + 1) s = .returned s) ∧
    ∀ (table : BaseCycles) (s : State) (ev : Evaluator) (fuel : Nat), ev.wf = true →
      run table ev fuel s = runLoop table ev fuel 0 { s with run := .running }

/-- O9. From every state a step answers a next state: nothing faults and nothing is refused (40_step_and_addressing.md R123, 20_memory.md R46, 60_exceptions.md R231, 60_exceptions.md R232, assumption log 5, assumption log 6). That the step of a stopped core answers the same state is the model's reading (log 5). That the illegal opcode is taken as a next state and not as a fault is the model's reading (log 6). -/
def Obligations.StepAlwaysAnswersANextState : Prop :=
  ∀ s : State, ∃ t, step s = .next t ∧
    (s.run = .running → t.run = .running ∧ t.ins = s.ins + 1 ∨
      (s.readByte s.pc).toNat ∈ illegalOpcodes ∧ t = { s with run := .stopped (.illegalOpcode (s.readByte s.pc) s.pc) })

/-- O10. Every instruction completes from every state: INS grows by one, CYC by its base count and at most two more (40_step_and_addressing.md R118, 40_step_and_addressing.md R119, 40_step_and_addressing.md R120, 40_step_and_addressing.md R121). -/
def Obligations.EveryInstructionCompletesAndIsCounted : Prop :=
  ∀ (i : Instr) (s : State), ∃ (t : State) (extra : Nat), exec i s = .next t ∧ t.run = s.run ∧ t.ins = s.ins + 1 ∧
    t.cyc = s.cyc + BitVec.ofNat 64 (baseCycles i.opcode + extra) ∧
    extra ≤ (match extraRule i.opcode with | .none => 0 | .pageCross => 1 | .branch => 2)

/-- O11. Every step keeps memory in its canonical form (20_memory.md R40, 20_memory.md R42, 10_state.md R23, assumption log 3). The canonical form of memory is the model's own choice (log 3). -/
def Obligations.StepKeepsMemoryCanonical : Prop :=
  ∀ s t : State, s.wf = true → step s = .next t → t.wf = true

/-- O12. The memory after power-on and reset is in canonical form (10_state.md R27, assumption log 3). The canonical form of memory is the model's own choice (log 3). -/
def Obligations.ResetMemoryIsCanonical : Prop :=
  State.reset.wf = true ∧
    ∀ (s : State) (pc : Word) (a x y sp p : Byte), s.wf = true → (s.resetMove pc a x y sp p).wf = true

/-- O13. Two states with canonical memory that agree in every register and read alike everywhere are the same state (20_memory.md R40, 20_memory.md R41, 10_state.md R23, assumption log 3). The canonical form of memory is the model's own choice (log 3). -/
def Obligations.CanonicalMemoriesThatReadAlikeAreEqual : Prop :=
  ∀ s t : State, s.wf = true → t.wf = true → regsOf s = regsOf t → s.p = t.p → s.cyc = t.cyc → s.ins = t.ins → s.run = t.run →
    (∀ a : Word, s.readByte a = t.readByte a) → s = t

/-- O14. The byte, word and bit primitives of memory (R42, R43, R44, R45). -/
def Obligations.MemoryPrimitives : Prop :=
  ∀ (s : State) (a w : Word) (v : Byte) (i : Fin 8), s.wf = true →
    MemoryAfter [(a, v)] s (s.writeByte a v) ∧
    (s.readWord a).toNat = (s.readByte (a + 1)).toNat * 256 + (s.readByte a).toNat ∧
    MemoryAfter [(a, lo8 w), (a + 1, hi8 w)] s (s.writeWord a w) ∧
    s.isBitSet a i = (s.readByte a).getLsbD i ∧
    (∀ b : Word, b ≠ a → (s.setBit a i).readByte b = s.readByte b ∧ (s.clearBit a i).readByte b = s.readByte b) ∧
    (∀ k, k < 8 → ((s.setBit a i).readByte a).getLsbD k = (decide (k = i.val) || (s.readByte a).getLsbD k)) ∧
    (∀ k, k < 8 → ((s.clearBit a i).readByte a).getLsbD k = (!decide (k = i.val) && (s.readByte a).getLsbD k)) ∧
    regsOf (s.writeWord a w) = regsOf s ∧ regsOf (s.setBit a i) = regsOf s ∧ regsOf (s.clearBit a i) = regsOf s

/-- O15. Push8, Pop8, Push16 and Pop16: addresses in page 1, SP modulo 256, high byte pushed first and popped last (R125, R126, R127, R128). -/
def Obligations.StackHelpers : Prop :=
  ∀ (s : State) (v : Byte) (w : Word), s.wf = true →
    MemoryAfter [(stackByte s.sp, v)] s (push8 v s) ∧ regsOf (push8 v s) = { regsOf s with sp := s.sp - 1 } ∧
    pop8Value s = s.readByte (stackByte (s.sp + 1)) ∧ pop8State s = { s with sp := s.sp + 1 } ∧
    MemoryAfter [(stackByte s.sp, hi8 w), (stackByte (s.sp - 1), lo8 w)] s (push16 w s) ∧
    regsOf (push16 w s) = { regsOf s with sp := s.sp - 2 } ∧
    (push8 v s).p = s.p ∧ (push8 v s).cyc = s.cyc ∧ (push8 v s).ins = s.ins ∧ (push8 v s).run = s.run ∧
    (push16 w s).p = s.p ∧ (push16 w s).cyc = s.cyc ∧ (push16 w s).ins = s.ins ∧ (push16 w s).run = s.run ∧
    (pop16Value s).toNat = (s.readByte (stackByte (s.sp + 2))).toNat * 256 + (s.readByte (stackByte (s.sp + 1))).toNat ∧
    pop16State s = { s with sp := s.sp + 2 }

/-- O16. Implied, Accumulator, Immediate and Relative belong to the mnemonics the spec lists, with none or one operand byte, and Indirect to JMP alone (40_step_and_addressing.md R105, 40_step_and_addressing.md R106, 40_step_and_addressing.md R107, 40_step_and_addressing.md R108, 40_step_and_addressing.md R115). -/
def Obligations.ModesWithoutAnAddress : Prop :=
  UsedBy .imp [.tax, .tay, .txa, .tya, .tsx, .txs, .inx, .iny, .dex, .dey, .rts, .pha, .php, .pla, .plp, .brk, .rti, .sec, .clc, .sei, .cli, .sed, .cld, .clv, .nop] ∧
    UsedBy .acc [.asl, .lsr, .rol, .ror] ∧
    UsedBy .imm [.lda, .ldx, .ldy, .and, .ora, .eor, .adc, .sbc, .cmp, .cpx, .cpy] ∧
    UsedBy .rel [.bcc, .bcs, .beq, .bne, .bmi, .bpl, .bvc, .bvs] ∧
    UsedBy .ind [.jmp] ∧
    AddrMode.imp.size = 1 ∧ AddrMode.acc.size = 1 ∧ AddrMode.imm.size = 2 ∧ AddrMode.rel.size = 2

/-- O17. The zero-page modes stay in page 0: the index sum wraps modulo 256 and no page is crossed (R109, R110, R111). -/
def Obligations.ZeroPageAddresses : Prop :=
  ∀ (s : State) (nn : Byte),
    (zp nn).ea.toNat = nn.toNat ∧ (zp nn).crossed = false ∧
    (zpx nn s).ea.toNat = (nn.toNat + s.x.toNat) % 256 ∧ (zpx nn s).crossed = false ∧
    (zpy nn s).ea.toNat = (nn.toNat + s.y.toNat) % 256 ∧ (zpy nn s).crossed = false ∧
    UsedBy .zp [.lda, .ldx, .ldy, .and, .ora, .eor, .adc, .sbc, .cmp, .cpx, .cpy, .bit, .sta, .stx, .sty, .inc, .dec, .asl, .lsr, .rol, .ror] ∧
    UsedBy .zpx [.lda, .ldy, .and, .ora, .eor, .adc, .sbc, .cmp, .sta, .sty, .inc, .dec, .asl, .lsr, .rol, .ror] ∧
    UsedBy .zpy [.ldx, .stx]

/-- O18. The absolute modes: the index is added modulo 65,536 and crossed says that the high byte changed (R112, R113, R114). -/
def Obligations.AbsoluteAddresses : Prop :=
  ∀ (s : State) (w : Word),
    (absolute w).ea = w ∧ (absolute w).crossed = false ∧
    (abx w s).ea.toNat = (w.toNat + s.x.toNat) % 65536 ∧
    ((abx w s).crossed = true ↔ (abx w s).ea.toNat / 256 ≠ w.toNat / 256) ∧
    (aby w s).ea.toNat = (w.toNat + s.y.toNat) % 65536 ∧
    ((aby w s).crossed = true ↔ (aby w s).ea.toNat / 256 ≠ w.toNat / 256) ∧
    UsedBy .abs [.lda, .ldx, .ldy, .and, .ora, .eor, .adc, .sbc, .cmp, .cpx, .cpy, .bit, .sta, .stx, .sty, .inc, .dec, .asl, .lsr, .rol, .ror, .jmp, .jsr] ∧
    UsedBy .abx [.lda, .ldy, .and, .ora, .eor, .adc, .sbc, .cmp, .sta, .inc, .dec, .asl, .lsr, .rol, .ror] ∧
    UsedBy .aby [.lda, .ldx, .and, .ora, .eor, .adc, .sbc, .cmp, .sta]

/-- O19. Indirect takes the low byte at ptr and the high byte at the next address in the pointer's page (R115). -/
def Obligations.IndirectPointerStaysInItsPage : Prop :=
  ∀ (s : State) (w : Word),
    (indirect w s).ea.toNat =
      (s.readByte (BitVec.ofNat 16 (w.toNat / 256 * 256 + (w.toNat % 256 + 1) % 256))).toNat * 256 + (s.readByte w).toNat ∧
    (indirect w s).crossed = false ∧
    (w.toNat % 256 ≠ 255 → (indirect w s).ea = s.readWord w) ∧
    (w.toNat % 256 = 255 → (indirect w s).ea = joinBytes (s.readByte (BitVec.ofNat 16 (w.toNat - 255))) (s.readByte w)) ∧
    UsedBy .ind [.jmp]

/-- O20. Zero-page pointers and the two indexed indirect modes, with both settings of ZP_POINTER_WRAP (R129, R116, R117). -/
def Obligations.ZeroPagePointers : Prop :=
  ∀ (s : State) (nn : Byte),
    (nn ≠ 0xFF → readZpPointer nn s = s.readWord (BitVec.ofNat 16 nn.toNat)) ∧
    (Config.zpPointerWrap = .wrap16 → readZpPointer 0xFF s = joinBytes (s.readByte 0x0100) (s.readByte 0x00FF)) ∧
    (Config.zpPointerWrap = .wrap8 → readZpPointer 0xFF s = joinBytes (s.readByte 0x0000) (s.readByte 0x00FF)) ∧
    (izx nn s).ea = readZpPointer (nn + s.x) s ∧ (izx nn s).crossed = false ∧
    (izy nn s).ea.toNat = ((readZpPointer nn s).toNat + s.y.toNat) % 65536 ∧
    ((izy nn s).crossed = true ↔ (izy nn s).ea.toNat / 256 ≠ (readZpPointer nn s).toNat / 256) ∧
    UsedBy .izx [.lda, .and, .ora, .eor, .adc, .sbc, .cmp, .sta] ∧
    UsedBy .izy [.lda, .and, .ora, .eor, .adc, .sbc, .cmp, .sta]

/-- O21. LDA, LDX, LDY in every mode: the register is the operand byte, Z and N come from it (R140, R141, R142, R124). Codes and base cycles are the rows of R75 (logs 10, 16). -/
def Obligations.LoadForms : Prop :=
  ∀ (s : State) (nn : Byte) (w : Word),
    LoadsA s (.ldaIzx nn) [0xA1, nn] (s.readByte (izx nn s).ea) 6 ∧
    LoadsA s (.ldaZp nn) [0xA5, nn] (s.readByte (zp nn).ea) 3 ∧
    LoadsA s (.ldaImm nn) [0xA9, nn] nn 2 ∧
    LoadsA s (.ldaAbs w) [0xAD, lo8 w, hi8 w] (s.readByte (absolute w).ea) 4 ∧
    LoadsA s (.ldaIzy nn) [0xB1, nn] (s.readByte (izy nn s).ea) (5 + bit01 (izy nn s).crossed) ∧
    LoadsA s (.ldaZpx nn) [0xB5, nn] (s.readByte (zpx nn s).ea) 4 ∧
    LoadsA s (.ldaAby w) [0xB9, lo8 w, hi8 w] (s.readByte (aby w s).ea) (4 + bit01 (aby w s).crossed) ∧
    LoadsA s (.ldaAbx w) [0xBD, lo8 w, hi8 w] (s.readByte (abx w s).ea) (4 + bit01 (abx w s).crossed) ∧
    LoadsX s (.ldxImm nn) [0xA2, nn] nn 2 ∧
    LoadsX s (.ldxZp nn) [0xA6, nn] (s.readByte (zp nn).ea) 3 ∧
    LoadsX s (.ldxAbs w) [0xAE, lo8 w, hi8 w] (s.readByte (absolute w).ea) 4 ∧
    LoadsX s (.ldxZpy nn) [0xB6, nn] (s.readByte (zpy nn s).ea) 4 ∧
    LoadsX s (.ldxAby w) [0xBE, lo8 w, hi8 w] (s.readByte (aby w s).ea) (4 + bit01 (aby w s).crossed) ∧
    LoadsY s (.ldyImm nn) [0xA0, nn] nn 2 ∧
    LoadsY s (.ldyZp nn) [0xA4, nn] (s.readByte (zp nn).ea) 3 ∧
    LoadsY s (.ldyAbs w) [0xAC, lo8 w, hi8 w] (s.readByte (absolute w).ea) 4 ∧
    LoadsY s (.ldyZpx nn) [0xB4, nn] (s.readByte (zpx nn s).ea) 4 ∧
    LoadsY s (.ldyAbx w) [0xBC, lo8 w, hi8 w] (s.readByte (abx w s).ea) (4 + bit01 (abx w s).crossed)

/-- O22. AND, ORA, EOR in every mode: A is the bitwise result, Z and N come from it (R143, R144, R145). Codes and base cycles are the rows of R75 (logs 10, 16). -/
def Obligations.LogicForms : Prop :=
  ∀ (s : State) (nn : Byte) (w : Word),
    AndsA s (.andIzx nn) [0x21, nn] (s.readByte (izx nn s).ea) 6 ∧
    AndsA s (.andZp nn) [0x25, nn] (s.readByte (zp nn).ea) 3 ∧
    AndsA s (.andImm nn) [0x29, nn] nn 2 ∧
    AndsA s (.andAbs w) [0x2D, lo8 w, hi8 w] (s.readByte (absolute w).ea) 4 ∧
    AndsA s (.andIzy nn) [0x31, nn] (s.readByte (izy nn s).ea) (5 + bit01 (izy nn s).crossed) ∧
    AndsA s (.andZpx nn) [0x35, nn] (s.readByte (zpx nn s).ea) 4 ∧
    AndsA s (.andAby w) [0x39, lo8 w, hi8 w] (s.readByte (aby w s).ea) (4 + bit01 (aby w s).crossed) ∧
    AndsA s (.andAbx w) [0x3D, lo8 w, hi8 w] (s.readByte (abx w s).ea) (4 + bit01 (abx w s).crossed) ∧
    OrsA s (.oraIzx nn) [0x01, nn] (s.readByte (izx nn s).ea) 6 ∧
    OrsA s (.oraZp nn) [0x05, nn] (s.readByte (zp nn).ea) 3 ∧
    OrsA s (.oraImm nn) [0x09, nn] nn 2 ∧
    OrsA s (.oraAbs w) [0x0D, lo8 w, hi8 w] (s.readByte (absolute w).ea) 4 ∧
    OrsA s (.oraIzy nn) [0x11, nn] (s.readByte (izy nn s).ea) (5 + bit01 (izy nn s).crossed) ∧
    OrsA s (.oraZpx nn) [0x15, nn] (s.readByte (zpx nn s).ea) 4 ∧
    OrsA s (.oraAby w) [0x19, lo8 w, hi8 w] (s.readByte (aby w s).ea) (4 + bit01 (aby w s).crossed) ∧
    OrsA s (.oraAbx w) [0x1D, lo8 w, hi8 w] (s.readByte (abx w s).ea) (4 + bit01 (abx w s).crossed) ∧
    XorsA s (.eorIzx nn) [0x41, nn] (s.readByte (izx nn s).ea) 6 ∧
    XorsA s (.eorZp nn) [0x45, nn] (s.readByte (zp nn).ea) 3 ∧
    XorsA s (.eorImm nn) [0x49, nn] nn 2 ∧
    XorsA s (.eorAbs w) [0x4D, lo8 w, hi8 w] (s.readByte (absolute w).ea) 4 ∧
    XorsA s (.eorIzy nn) [0x51, nn] (s.readByte (izy nn s).ea) (5 + bit01 (izy nn s).crossed) ∧
    XorsA s (.eorZpx nn) [0x55, nn] (s.readByte (zpx nn s).ea) 4 ∧
    XorsA s (.eorAby w) [0x59, lo8 w, hi8 w] (s.readByte (aby w s).ea) (4 + bit01 (aby w s).crossed) ∧
    XorsA s (.eorAbx w) [0x5D, lo8 w, hi8 w] (s.readByte (abx w s).ea) (4 + bit01 (abx w s).crossed)

/-- O23. TAX, TAY, TXA, TYA, TSX, TXS copy one register to another and set Z and N from it, TXS too (R146, R147, R148, R149, R150, R151). Codes and base cycles are the rows of R75 (logs 10, 16). -/
def Obligations.TransferForms : Prop :=
  ∀ s : State,
    LoadsX s .tax [0xAA] s.a 2 ∧
    LoadsY s .tay [0xA8] s.a 2 ∧
    LoadsA s .txa [0x8A] s.x 2 ∧
    LoadsA s .tya [0x98] s.y 2 ∧
    LoadsX s .tsx [0xBA] s.sp 2 ∧
    (encode .txs = [0x9A] ∧ Leaves s .txs { regsOf s with sp := s.x } (nzBits s.x) [] 2)

/-- O24. STA, STX, STY in every mode store the register at the effective address and change nothing else (R152, R153, R154). Codes and base cycles are the rows of R75 (logs 10, 16). -/
def Obligations.StoreForms : Prop :=
  ∀ (s : State) (nn : Byte) (w : Word), s.wf = true →
    StoresAt s (.staIzx nn) [0x81, nn] (izx nn s).ea s.a 6 ∧
    StoresAt s (.staZp nn) [0x85, nn] (zp nn).ea s.a 3 ∧
    StoresAt s (.staAbs w) [0x8D, lo8 w, hi8 w] (absolute w).ea s.a 4 ∧
    StoresAt s (.staIzy nn) [0x91, nn] (izy nn s).ea s.a 6 ∧
    StoresAt s (.staZpx nn) [0x95, nn] (zpx nn s).ea s.a 4 ∧
    StoresAt s (.staAby w) [0x99, lo8 w, hi8 w] (aby w s).ea s.a 5 ∧
    StoresAt s (.staAbx w) [0x9D, lo8 w, hi8 w] (abx w s).ea s.a 5 ∧
    StoresAt s (.stxZp nn) [0x86, nn] (zp nn).ea s.x 3 ∧
    StoresAt s (.stxAbs w) [0x8E, lo8 w, hi8 w] (absolute w).ea s.x 4 ∧
    StoresAt s (.stxZpy nn) [0x96, nn] (zpy nn s).ea s.x 4 ∧
    StoresAt s (.styZp nn) [0x84, nn] (zp nn).ea s.y 3 ∧
    StoresAt s (.styAbs w) [0x8C, lo8 w, hi8 w] (absolute w).ea s.y 4 ∧
    StoresAt s (.styZpx nn) [0x94, nn] (zpx nn s).ea s.y 4

/-- O25. ADC in every mode, in binary and in decimal mode (R160). Codes and base cycles are the rows of R75 (logs 10, 16). -/
def Obligations.AdcForms : Prop :=
  ∀ (s : State) (nn : Byte) (w : Word),
    AddsA s (.adcIzx nn) [0x61, nn] (s.readByte (izx nn s).ea) 6 ∧
    AddsA s (.adcZp nn) [0x65, nn] (s.readByte (zp nn).ea) 3 ∧
    AddsA s (.adcImm nn) [0x69, nn] nn 2 ∧
    AddsA s (.adcAbs w) [0x6D, lo8 w, hi8 w] (s.readByte (absolute w).ea) 4 ∧
    AddsA s (.adcIzy nn) [0x71, nn] (s.readByte (izy nn s).ea) (5 + bit01 (izy nn s).crossed) ∧
    AddsA s (.adcZpx nn) [0x75, nn] (s.readByte (zpx nn s).ea) 4 ∧
    AddsA s (.adcAby w) [0x79, lo8 w, hi8 w] (s.readByte (aby w s).ea) (4 + bit01 (aby w s).crossed) ∧
    AddsA s (.adcAbx w) [0x7D, lo8 w, hi8 w] (s.readByte (abx w s).ea) (4 + bit01 (abx w s).crossed) ∧
    (s.p.getLsbD 3 = false → ((adcOutcome s nn).2.lookup 6 = some true ↔
      signed8 s.a + signed8 nn + ((s.p.getLsbD 0).toNat : Int) < -128 ∨ 127 < signed8 s.a + signed8 nn + ((s.p.getLsbD 0).toNat : Int)) ∧
      ((adcOutcome s nn).2.lookup 6 = some true ↔ (s.a ^^^ (adcOutcome s nn).1) &&& (nn ^^^ (adcOutcome s nn).1) &&& 0x80 ≠ 0))

/-- O26. SBC in every mode, in binary and in decimal mode (R161). Codes and base cycles are the rows of R75 (logs 10, 16). -/
def Obligations.SbcForms : Prop :=
  ∀ (s : State) (nn : Byte) (w : Word),
    SubtractsA s (.sbcIzx nn) [0xE1, nn] (s.readByte (izx nn s).ea) 6 ∧
    SubtractsA s (.sbcZp nn) [0xE5, nn] (s.readByte (zp nn).ea) 3 ∧
    SubtractsA s (.sbcImm nn) [0xE9, nn] nn 2 ∧
    SubtractsA s (.sbcAbs w) [0xED, lo8 w, hi8 w] (s.readByte (absolute w).ea) 4 ∧
    SubtractsA s (.sbcIzy nn) [0xF1, nn] (s.readByte (izy nn s).ea) (5 + bit01 (izy nn s).crossed) ∧
    SubtractsA s (.sbcZpx nn) [0xF5, nn] (s.readByte (zpx nn s).ea) 4 ∧
    SubtractsA s (.sbcAby w) [0xF9, lo8 w, hi8 w] (s.readByte (aby w s).ea) (4 + bit01 (aby w s).crossed) ∧
    SubtractsA s (.sbcAbx w) [0xFD, lo8 w, hi8 w] (s.readByte (abx w s).ea) (4 + bit01 (abx w s).crossed) ∧
    (s.p.getLsbD 3 = false → (sbcOutcome s nn).1 = (adcOutcome s (nn ^^^ 0xFF)).1 ∧
      ∀ k, (sbcOutcome s nn).2.lookup k = (adcOutcome s (nn ^^^ 0xFF)).2.lookup k) ∧
    (s.p.getLsbD 3 = false → ((sbcOutcome s nn).2.lookup 6 = some true ↔
      signed8 s.a - signed8 nn - (1 - ((s.p.getLsbD 0).toNat : Int)) < -128 ∨
      127 < signed8 s.a - signed8 nn - (1 - ((s.p.getLsbD 0).toNat : Int))))

/-- O27. In decimal mode ADC and SBC give results that depend on A, the operand byte and C only (42_arithmetic_compare.md R162). -/
def Obligations.DecimalResultsDependOnThreeArguments : Prop :=
  ∀ (s s' : State) (nn : Byte) (i : Instr), (i = .adcImm nn ∨ i = .sbcImm nn) → s.p.getLsbD 3 = true → s'.p.getLsbD 3 = true →
    s.a = s'.a → s.p.getLsbD 0 = s'.p.getLsbD 0 →
    ∃ t t', exec i s = .next t ∧ exec i s' = .next t' ∧ t.a = t'.a ∧
      (∀ k, k = 0 ∨ k = 1 ∨ k = 6 ∨ k = 7 → t.p.getLsbD k = t'.p.getLsbD k) ∧
      (∀ k, k = 2 ∨ k = 3 ∨ k = 4 ∨ k = 5 → t.p.getLsbD k = s.p.getLsbD k) ∧ MemoryAfter [] s t

/-- O28. CMP, CPX, CPY in every mode: C is the unsigned comparison, Z equality, N bit 7 of the difference (R163, R164, R165). Codes and base cycles are the rows of R75 (logs 10, 16). -/
def Obligations.CompareForms : Prop :=
  ∀ (s : State) (nn : Byte) (w : Word),
    ComparesWith s.a s (.cmpIzx nn) [0xC1, nn] (s.readByte (izx nn s).ea) 6 ∧
    ComparesWith s.a s (.cmpZp nn) [0xC5, nn] (s.readByte (zp nn).ea) 3 ∧
    ComparesWith s.a s (.cmpImm nn) [0xC9, nn] nn 2 ∧
    ComparesWith s.a s (.cmpAbs w) [0xCD, lo8 w, hi8 w] (s.readByte (absolute w).ea) 4 ∧
    ComparesWith s.a s (.cmpIzy nn) [0xD1, nn] (s.readByte (izy nn s).ea) (5 + bit01 (izy nn s).crossed) ∧
    ComparesWith s.a s (.cmpZpx nn) [0xD5, nn] (s.readByte (zpx nn s).ea) 4 ∧
    ComparesWith s.a s (.cmpAby w) [0xD9, lo8 w, hi8 w] (s.readByte (aby w s).ea) (4 + bit01 (aby w s).crossed) ∧
    ComparesWith s.a s (.cmpAbx w) [0xDD, lo8 w, hi8 w] (s.readByte (abx w s).ea) (4 + bit01 (abx w s).crossed) ∧
    ComparesWith s.x s (.cpxImm nn) [0xE0, nn] nn 2 ∧
    ComparesWith s.x s (.cpxZp nn) [0xE4, nn] (s.readByte (zp nn).ea) 3 ∧
    ComparesWith s.x s (.cpxAbs w) [0xEC, lo8 w, hi8 w] (s.readByte (absolute w).ea) 4 ∧
    ComparesWith s.y s (.cpyImm nn) [0xC0, nn] nn 2 ∧
    ComparesWith s.y s (.cpyZp nn) [0xC4, nn] (s.readByte (zp nn).ea) 3 ∧
    ComparesWith s.y s (.cpyAbs w) [0xCC, lo8 w, hi8 w] (s.readByte (absolute w).ea) 4

/-- O29. INC and DEC in every mode add or subtract one modulo 256 at the effective address and set Z and N (R170, R171). Codes and base cycles are the rows of R75 (logs 10, 16). -/
def Obligations.IncDecMemoryForms : Prop :=
  ∀ (s : State) (nn : Byte) (w : Word), s.wf = true →
    Rewrites (· + 1) keepsCarry s (.incZp nn) [0xE6, nn] (zp nn).ea 5 ∧
    Rewrites (· + 1) keepsCarry s (.incAbs w) [0xEE, lo8 w, hi8 w] (absolute w).ea 6 ∧
    Rewrites (· + 1) keepsCarry s (.incZpx nn) [0xF6, nn] (zpx nn s).ea 6 ∧
    Rewrites (· + 1) keepsCarry s (.incAbx w) [0xFE, lo8 w, hi8 w] (abx w s).ea 7 ∧
    Rewrites (· - 1) keepsCarry s (.decZp nn) [0xC6, nn] (zp nn).ea 5 ∧
    Rewrites (· - 1) keepsCarry s (.decAbs w) [0xCE, lo8 w, hi8 w] (absolute w).ea 6 ∧
    Rewrites (· - 1) keepsCarry s (.decZpx nn) [0xD6, nn] (zpx nn s).ea 6 ∧
    Rewrites (· - 1) keepsCarry s (.decAbx w) [0xDE, lo8 w, hi8 w] (abx w s).ea 7

/-- O30. INX, INY, DEX, DEY add or subtract one modulo 256 and set Z and N (R172, R173, R174, R175). Codes and base cycles are the rows of R75 (logs 10, 16). -/
def Obligations.IncDecRegisterForms : Prop :=
  ∀ s : State,
    LoadsX s .inx [0xE8] (s.x + 1) 2 ∧
    LoadsY s .iny [0xC8] (s.y + 1) 2 ∧
    LoadsX s .dex [0xCA] (s.x - 1) 2 ∧
    LoadsY s .dey [0x88] (s.y - 1) 2

/-- O31. ASL and LSR in every mode: C receives the bit shifted out, a 0 enters, Z and N come from the result (R176, R177). Codes and base cycles are the rows of R75 (logs 10, 16). -/
def Obligations.ShiftForms : Prop :=
  ∀ (s : State) (nn : Byte) (w : Word), s.wf = true →
    Rewrites aslOf carryFromTop s (.aslZp nn) [0x06, nn] (zp nn).ea 5 ∧
    RewritesA aslOf carryFromTop s .aslAcc [0x0A] 2 ∧
    Rewrites aslOf carryFromTop s (.aslAbs w) [0x0E, lo8 w, hi8 w] (absolute w).ea 6 ∧
    Rewrites aslOf carryFromTop s (.aslZpx nn) [0x16, nn] (zpx nn s).ea 6 ∧
    Rewrites aslOf carryFromTop s (.aslAbx w) [0x1E, lo8 w, hi8 w] (abx w s).ea 7 ∧
    Rewrites lsrOf carryFromBottom s (.lsrZp nn) [0x46, nn] (zp nn).ea 5 ∧
    RewritesA lsrOf carryFromBottom s .lsrAcc [0x4A] 2 ∧
    Rewrites lsrOf carryFromBottom s (.lsrAbs w) [0x4E, lo8 w, hi8 w] (absolute w).ea 6 ∧
    Rewrites lsrOf carryFromBottom s (.lsrZpx nn) [0x56, nn] (zpx nn s).ea 6 ∧
    Rewrites lsrOf carryFromBottom s (.lsrAbx w) [0x5E, lo8 w, hi8 w] (abx w s).ea 7

/-- O32. ROL and ROR in every mode: the prior carry enters the vacated bit and C receives the bit shifted out (R178, R179). Codes and base cycles are the rows of R75 (logs 10, 16). -/
def Obligations.RotateForms : Prop :=
  ∀ (s : State) (nn : Byte) (w : Word), s.wf = true →
    Rewrites (rolOf (s.p.getLsbD 0)) carryFromTop s (.rolZp nn) [0x26, nn] (zp nn).ea 5 ∧
    RewritesA (rolOf (s.p.getLsbD 0)) carryFromTop s .rolAcc [0x2A] 2 ∧
    Rewrites (rolOf (s.p.getLsbD 0)) carryFromTop s (.rolAbs w) [0x2E, lo8 w, hi8 w] (absolute w).ea 6 ∧
    Rewrites (rolOf (s.p.getLsbD 0)) carryFromTop s (.rolZpx nn) [0x36, nn] (zpx nn s).ea 6 ∧
    Rewrites (rolOf (s.p.getLsbD 0)) carryFromTop s (.rolAbx w) [0x3E, lo8 w, hi8 w] (abx w s).ea 7 ∧
    Rewrites (rorOf (s.p.getLsbD 0)) carryFromBottom s (.rorZp nn) [0x66, nn] (zp nn).ea 5 ∧
    RewritesA (rorOf (s.p.getLsbD 0)) carryFromBottom s .rorAcc [0x6A] 2 ∧
    Rewrites (rorOf (s.p.getLsbD 0)) carryFromBottom s (.rorAbs w) [0x6E, lo8 w, hi8 w] (absolute w).ea 6 ∧
    Rewrites (rorOf (s.p.getLsbD 0)) carryFromBottom s (.rorZpx nn) [0x76, nn] (zpx nn s).ea 6 ∧
    Rewrites (rorOf (s.p.getLsbD 0)) carryFromBottom s (.rorAbx w) [0x7E, lo8 w, hi8 w] (abx w s).ea 7 ∧
    (Nat.iterate (fun q : Bool × Byte => (q.2.getLsbD 7, rolOf q.1 q.2)) 9 (s.p.getLsbD 0, nn) = (s.p.getLsbD 0, nn))

/-- O33. BIT: Z from A and the byte, N and V from bits 7 and 6 of the byte (R180). Codes and base cycles are the rows of R75 (logs 10, 16). -/
def Obligations.BitForms : Prop :=
  ∀ (s : State) (nn : Byte) (w : Word),
    TestsBits s (.bitZp nn) [0x24, nn] (s.readByte (zp nn).ea) 3 ∧
    TestsBits s (.bitAbs w) [0x2C, lo8 w, hi8 w] (s.readByte (absolute w).ea) 4

/-- O34. The eight branches: condition, target and cycles (R190, R191, R192, R193, R194, R195, R196, R197, R198). Codes and base cycles are the rows of R75 (logs 10, 16). -/
def Obligations.BranchForms : Prop :=
  ∀ (s : State) (nn : Byte),
    BranchesOn (!s.p.getLsbD 0) s (.bcc nn) [0x90, nn] nn ∧
    BranchesOn (s.p.getLsbD 0) s (.bcs nn) [0xB0, nn] nn ∧
    BranchesOn (s.p.getLsbD 1) s (.beq nn) [0xF0, nn] nn ∧
    BranchesOn (!s.p.getLsbD 1) s (.bne nn) [0xD0, nn] nn ∧
    BranchesOn (s.p.getLsbD 7) s (.bmi nn) [0x30, nn] nn ∧
    BranchesOn (!s.p.getLsbD 7) s (.bpl nn) [0x10, nn] nn ∧
    BranchesOn (!s.p.getLsbD 6) s (.bvc nn) [0x50, nn] nn ∧
    BranchesOn (s.p.getLsbD 6) s (.bvs nn) [0x70, nn] nn

/-- O35. JMP absolute and indirect set PC to the effective address and change nothing else (R199). Codes and base cycles are the rows of R75 (logs 10, 16). -/
def Obligations.JumpForms : Prop :=
  ∀ (s : State) (w : Word),
    (encode (.jmpAbs w) = [0x4C, lo8 w, hi8 w] ∧ Leaves s (.jmpAbs w) { regsOf s with pc := w } [] [] 3) ∧
    (encode (.jmpInd w) = [0x6C, lo8 w, hi8 w] ∧ Leaves s (.jmpInd w) { regsOf s with pc := (indirect w s).ea } [] [] 5)

/-- O36. JSR pushes the address of its last byte and jumps; RTS pops a word and continues one past it (R200, R201). Codes and base cycles are the rows of R75 (logs 10, 16). -/
def Obligations.SubroutineForms : Prop :=
  ∀ (s : State) (w : Word), s.wf = true →
    (encode (.jsr w) = [0x20, lo8 w, hi8 w] ∧ Leaves s (.jsr w) { regsOf s with sp := s.sp - 2, pc := w } []
      [(stackByte s.sp, hi8 (s.pc - 1)), (stackByte (s.sp - 1), lo8 (s.pc - 1))] 6) ∧
    (encode .rts = [0x60] ∧ Leaves s .rts { regsOf s with sp := s.sp + 2, pc := joinBytes (s.readByte (stackByte (s.sp + 2))) (s.readByte (stackByte (s.sp + 1))) + 1 } [] [] 6) ∧
    (∃ t u, exec (.jsr w) s = .next t ∧ exec .rts (advancePc .rts t) = .next u ∧ u.pc = s.pc ∧ u.sp = s.sp)

/-- O37. PHA and PHP store one byte at 0x0100 + SP and decrement SP; PHP pushes P with Break and Unused set (R210, R211). Codes and base cycles are the rows of R75 (logs 10, 16). -/
def Obligations.PushForms : Prop :=
  ∀ s : State, s.wf = true →
    (encode .pha = [0x48] ∧ Leaves s .pha { regsOf s with sp := s.sp - 1 } [] [(stackByte s.sp, s.a)] 3) ∧
    (encode .php = [0x08] ∧ Leaves s .php { regsOf s with sp := s.sp - 1 } [] [(stackByte s.sp, pushedStatus s.p)] 3) ∧
    (∀ k, k < 8 → (pushedStatus s.p).getLsbD k = (decide (k = 4 ∨ k = 5) || s.p.getLsbD k))

/-- O38. PLA and PLP pop one byte; PLA sets Z and N from it, PLP loads all of P verbatim (R212, R213). Codes and base cycles are the rows of R75 (logs 10, 16). -/
def Obligations.PullForms : Prop :=
  ∀ s : State,
    (encode .pla = [0x68] ∧ Leaves s .pla { regsOf s with a := s.readByte (stackByte (s.sp + 1)), sp := s.sp + 1 }
      (nzBits (s.readByte (stackByte (s.sp + 1)))) [] 4) ∧
    (encode .plp = [0x28] ∧ Leaves s .plp { regsOf s with sp := s.sp + 1 }
      ((List.range 8).map (fun k => (k, (s.readByte (stackByte (s.sp + 1))).getLsbD k))) [] 4) ∧
    (s.wf = true → ∃ t u, exec .php s = .next t ∧ exec .plp t = .next u ∧ u.sp = s.sp ∧ u.p = pushedStatus s.p)

/-- O39. BRK pushes the return address and the status, sets I and loads PC from the vector (R214, R237). Codes and base cycles are the rows of R75 (logs 10, 16). -/
def Obligations.BreakEntry : Prop :=
  ∀ s : State, s.wf = true →
    encode .brk = [0x00] ∧
    Leaves s .brk { regsOf s with sp := s.sp - 3, pc := joinBytes (s.readByte 0xFFFF) (s.readByte 0xFFFE) } [(2, true)]
      [(stackByte s.sp, hi8 (s.pc + 1)), (stackByte (s.sp - 1), lo8 (s.pc + 1)), (stackByte (s.sp - 2), pushedStatus s.p)] 7

/-- O40. RTI pops P with Break and Unused cleared, then PC; after BRK it undoes the entry (R215). Codes and base cycles are the rows of R75 (logs 10, 16). -/
def Obligations.BreakReturn : Prop :=
  ∀ s : State,
    encode .rti = [0x40] ∧
    Leaves s .rti { regsOf s with sp := s.sp + 3, pc := joinBytes (s.readByte (stackByte (s.sp + 3))) (s.readByte (stackByte (s.sp + 2))) }
      ((List.range 8).map (fun k => (k, decide (k ≠ 4 ∧ k ≠ 5) && (s.readByte (stackByte (s.sp + 1))).getLsbD k))) [] 6 ∧
    (s.wf = true → ∃ t u, exec .brk s = .next t ∧ exec .rti (advancePc .rti t) = .next u ∧ u.pc = s.pc + 1 ∧ u.sp = s.sp ∧
      u.p = s.p &&& 0xCF)

/-- O41. SEC, CLC, SEI, CLI, SED, CLD, CLV write one flag; NOP writes nothing (R216, R217, R218, R219, R220, R221, R222, R223). Codes and base cycles are the rows of R75 (logs 10, 16). -/
def Obligations.FlagAndNopForms : Prop :=
  ∀ s : State,
    WritesOneFlag 0 true s .sec [0x38] ∧
    WritesOneFlag 0 false s .clc [0x18] ∧
    WritesOneFlag 2 true s .sei [0x78] ∧
    WritesOneFlag 2 false s .cli [0x58] ∧
    WritesOneFlag 3 true s .sed [0xF8] ∧
    WritesOneFlag 3 false s .cld [0xD8] ∧
    WritesOneFlag 6 false s .clv [0xB8] ∧
    (encode .nop = [0xEA] ∧ Leaves s .nop (regsOf s) [] [] 2)

/-- O42. A, X, Y, SP and PC are written by the instructions the spec lists and by no other (10_state.md R10, 10_state.md R11, 10_state.md R12, 10_state.md R13, 10_state.md R14). -/
def Obligations.OnlyListedInstructionsWriteTheRegisters : Prop :=
  ∀ (i : Instr) (s t : State), exec i s = .next t →
    (i.mnemonic ∉ [.lda, .and, .ora, .eor, .adc, .sbc, .txa, .tya, .pla] →
      ¬ (i.mnemonic ∈ [.asl, .lsr, .rol, .ror] ∧ i.mode = .acc) → t.a = s.a) ∧
    (i.mnemonic ∉ [.ldx, .tax, .tsx, .inx, .dex] → t.x = s.x) ∧
    (i.mnemonic ∉ [.ldy, .tay, .iny, .dey] → t.y = s.y) ∧
    (i.mnemonic ∉ [.txs, .pha, .php, .pla, .plp, .jsr, .rts, .brk, .rti] → t.sp = s.sp) ∧
    (i.mnemonic ∉ [.bcc, .bcs, .beq, .bne, .bmi, .bpl, .bvc, .bvs, .jmp, .jsr, .rts, .rti, .brk] → t.pc = s.pc)

/-- O43. Each flag of P is written by the instructions the spec's table lists and by no other (10_state.md R19, 10_state.md R17). -/
def Obligations.OnlyListedInstructionsWriteTheFlags : Prop :=
  ∀ (i : Instr) (s t : State), exec i s = .next t →
    (i.mnemonic ∉ [.adc, .sbc, .cmp, .cpx, .cpy, .asl, .lsr, .rol, .ror, .sec, .clc, .plp, .rti] → t.p.getLsbD 0 = s.p.getLsbD 0) ∧
    (i.mnemonic ∉ [.lda, .ldx, .ldy, .and, .ora, .eor, .tax, .tay, .txa, .tya, .tsx, .txs, .adc, .sbc, .cmp, .cpx, .cpy, .inc, .dec, .inx, .iny, .dex, .dey, .asl, .lsr, .rol, .ror, .bit, .pla, .plp, .rti] →
      t.p.getLsbD 1 = s.p.getLsbD 1 ∧ t.p.getLsbD 7 = s.p.getLsbD 7) ∧
    (i.mnemonic ∉ [.sei, .cli, .brk, .plp, .rti] → t.p.getLsbD 2 = s.p.getLsbD 2) ∧
    (i.mnemonic ∉ [.sed, .cld, .plp, .rti] → t.p.getLsbD 3 = s.p.getLsbD 3) ∧
    (i.mnemonic ∉ [.plp, .rti] → t.p.getLsbD 4 = s.p.getLsbD 4 ∧ t.p.getLsbD 5 = s.p.getLsbD 5) ∧
    (i.mnemonic ∉ [.adc, .sbc, .bit, .clv, .plp, .rti] → t.p.getLsbD 6 = s.p.getLsbD 6)

/-- O44. Memory is written by the stores, the memory read-modify-writes and the pushes only, and the pushes stay in page 1 (10_state.md R23, 20_memory.md R50, 20_memory.md R58). -/
def Obligations.OnlyListedInstructionsWriteMemory : Prop :=
  ∀ (i : Instr) (s t : State), s.wf = true → exec i s = .next t →
    (i.mnemonic ∉ [.sta, .stx, .sty, .inc, .dec, .pha, .php, .jsr, .brk] →
      ¬ (i.mnemonic ∈ [.asl, .lsr, .rol, .ror] ∧ i.mode ≠ .acc) → MemoryAfter [] s t) ∧
    (i.mnemonic ∈ [.pha, .php, .jsr, .brk] → ∀ a : Word, a.toNat / 256 ≠ 1 → t.readByte a = s.readByte a)

/-- O45. No instruction reads CYC or INS: changing them before an instruction changes only them after it (70_reset_and_hazards.md R267, 10_state.md R20, 10_state.md R21, 40_step_and_addressing.md R120). -/
def Obligations.CountersAffectNothingElse : Prop :=
  ∀ (i : Instr) (s : State) (c n : Counter),
    exec i { s with cyc := s.cyc + c, ins := s.ins + n } = onNext (fun t => { t with cyc := t.cyc + c, ins := t.ins + n }) (exec i s)

/-- O46. No behaviour depends on the live Break and Unused bits (10_state.md R17, 10_state.md R19). -/
def Obligations.BreakAndUnusedAffectNothing : Prop :=
  ∀ (i : Instr) (s : State), ∃ t t', exec i s = .next t ∧ exec i { s with p := s.p ||| 0x30 } = .next t' ∧
    regsOf t' = regsOf t ∧ t'.mem = t.mem ∧ t'.cyc = t.cyc ∧ t'.ins = t.ins ∧ t'.run = t.run ∧ t'.p ||| 0x30 = t.p ||| 0x30

/-- O47. P.I has no effect on execution: only PHP and BRK copy it, to the stack (60_exceptions.md R236, 10_state.md R19). -/
def Obligations.InterruptDisableSelectsNothing : Prop :=
  ∀ (i : Instr) (s : State), s.wf = true → ∃ t t', exec i s = .next t ∧ exec i { s with p := s.p ||| 0x04 } = .next t' ∧
    regsOf t' = regsOf t ∧ (i ≠ .php → i ≠ .brk → t'.mem = t.mem) ∧ t'.cyc = t.cyc ∧ t'.ins = t.ins ∧ t'.run = t.run ∧
    t'.p ||| 0x04 = t.p ||| 0x04

/-- O48. The rows with the page-cross cycle are the indexed read rows, the rows with the branch extra are the branches, and the three counts the source states hold (40_step_and_addressing.md R119, 92_eei_decisions.md D29, 30_encoding.md R75). -/
def Obligations.PageCrossCycleRows : Prop :=
  ∀ i : Instr,
    (extraRule i.opcode = .pageCross ↔
      i.mode ∈ [AddrMode.abx, .aby, .izy] ∧ i.mnemonic ∈ [Mnemonic.lda, .ldx, .ldy, .and, .ora, .eor, .adc, .sbc, .cmp]) ∧
    (extraRule i.opcode = .branch ↔ i.mode = .rel) ∧
    (i.mode = .rel → baseCycles i.opcode = 2) ∧
    (i.mode = .izx → baseCycles i.opcode = 6) ∧
    (i.mnemonic = .lda → i.mode = .imm → baseCycles i.opcode = 2) ∧
    2 ≤ baseCycles i.opcode ∧ baseCycles i.opcode ≤ 7

/-- O49. Reset sets PC to RESET_PC, clears the counters, stops the loop and keeps memory, from any state and for any register values (R261). -/
def Obligations.ResetValues : Prop :=
  ∀ (s : State) (resetPc : Word) (a x y sp p : Byte),
    regsOf (s.resetMove resetPc a x y sp p) = { a := a, x := x, y := y, sp := sp, pc := resetPc } ∧
    (s.resetMove resetPc a x y sp p).p = p ∧
    (s.resetMove resetPc a x y sp p).cyc = 0 ∧
    (s.resetMove resetPc a x y sp p).ins = 0 ∧
    (s.resetMove resetPc a x y sp p).run = .stopped .notStarted ∧
    (s.resetMove resetPc a x y sp p).mem = s.mem

/-- O50. GetReg after SetReg gives the value set; every other register, memory and RUN are unchanged (70_reset_and_hazards.md R263, 10_state.md R26). -/
def Obligations.HostReadsBackWhatItSets : Prop :=
  ∀ (s : State) (r : Reg) (v : BitVec r.width), (s.setReg r v).getReg r = v ∧ (s.setReg r v).mem = s.mem ∧ (s.setReg r v).run = s.run ∧
    ∀ q : Reg, q ≠ r → (s.setReg r v).getReg q = s.getReg q

/-- O51. Load places byte i at (a + i) mod 65536 and leaves every other byte (20_memory.md R59, 20_memory.md R40, 70_reset_and_hazards.md R263). -/
def Obligations.LoadPlacesTheBytes : Prop :=
  ∀ (s : State) (a : Word) (bs : List Byte), s.wf = true → bs.length ≤ 65536 →
    (∀ n (h : n < bs.length), (s.load a bs).readByte (a + BitVec.ofNat 16 n) = bs[n]) ∧
    (∀ b : Word, (∀ n, n < bs.length → b ≠ a + BitVec.ofNat 16 n) → (s.load a bs).readByte b = s.readByte b) ∧
    { s.load a bs with mem := s.mem } = s

/-- O52. A run that returns has stopped for its own evaluator's reason or on an illegal opcode, and never refuses otherwise (60_exceptions.md R230, 60_exceptions.md R245, 60_exceptions.md R246, 60_exceptions.md R249, 60_exceptions.md R233, assumption log 19). The refusal of MaxInstructions(0) is the model's own choice (log 19). -/
def Obligations.RunStopsOnlyForItsEvaluatorOrAnIllegalOpcode : Prop :=
  ∀ (table : BaseCycles) (ev : Evaluator) (fuel : Nat) (s : State),
    (∀ r, run table ev fuel s ≠ .faulted r) ∧
    ((∃ r, run table ev fuel s = .refused r) ↔ ev = .maxInstructions 0) ∧
    (∀ t, run table ev fuel s = .returned t →
      (t.run = .stopped (.illegalOpcode (t.readByte t.pc) t.pc) ∧ (t.readByte t.pc).toNat ∈ illegalOpcodes) ∨
      (match ev with
        | .maxInstructions _ => t.run = .stopped .maxInstructions
        | .opcodeReached b => t.run = .stopped (.opcodeReached b) ∧ t.readByte t.pc = b
        | .predicate f => t.run = .stopped .predicate ∧ f { t with run := .running } = true
        | .forever => False))

/-- O53. A run stopped by MaxInstructions(n) has completed exactly n instructions, and one stopped sooner met an illegal opcode (R246). -/
def Obligations.MaxInstructionsRunsExactlyN : Prop :=
  ∀ (table : BaseCycles) (n : Counter) (s : State), n ≠ 0 → ∃ t, (∀ more, run table (.maxInstructions n) (n.toNat + more) s = .returned t) ∧
      ((t.run = .stopped .maxInstructions ∧ t.ins = s.ins + n) ∨
       (t.badEnd = true ∧ ∃ k, k < n.toNat ∧ t.ins = s.ins + BitVec.ofNat 64 k))

/-- O54. OpcodeReached and Predicate are asked after a completed instruction, never before the first one of a run (R247, R248). -/
def Obligations.EvaluatorIsAskedAfterEachInstruction : Prop :=
  ∀ (table : BaseCycles) (s t : State) (fuel k : Nat), stepWith table s = .next t → t.run = .running →
    (∀ b : Byte, t.readByte t.pc = b → runLoop table (.opcodeReached b) (fuel + 1) k s = .returned { t with run := .stopped (.opcodeReached b) }) ∧
    (∀ b : Byte, t.readByte t.pc ≠ b → runLoop table (.opcodeReached b) (fuel + 1) k s = runLoop table (.opcodeReached b) fuel (k + 1) t) ∧
    (∀ f : State → Bool, f t = true → runLoop table (.predicate f) (fuel + 1) k s = .returned { t with run := .stopped .predicate }) ∧
    (∀ f : State → Bool, f t = false → runLoop table (.predicate f) (fuel + 1) k s = runLoop table (.predicate f) fuel (k + 1) t)

/-- O55. With any cycle table every instruction completes as it does with the default, but for CYC, which grows by the table's count and the same extra (00_scope.md R5, 40_step_and_addressing.md R119, 40_step_and_addressing.md R120, 70_reset_and_hazards.md R267, 92_eei_decisions.md D11, assumption log 10). The table as an argument of execWith, stepWith and run is how the model takes the parameter BaseCycles (log 10). -/
def Obligations.CycleTableIsAnArgument : Prop :=
  ∀ table : BaseCycles,
    (∀ (i : Instr) (s : State), ∃ (u : State) (extra : Nat), exec i s = .next u ∧
      u.cyc = s.cyc + BitVec.ofNat 64 (baseCycles i.opcode + extra) ∧
      extra ≤ (match extraRule i.opcode with | .none => 0 | .pageCross => 1 | .branch => 2) ∧
      execWith table i s = .next { u with cyc := s.cyc + BitVec.ofNat 64 (table i.opcode + extra) }) ∧
    (∀ (s : State) (i : Instr), s.run = .running →
      (∀ n (h : n < (encode i).length), s.readByte (s.pc + BitVec.ofNat 16 n) = (encode i)[n]) →
      stepWith table s = execWith table i { s with pc := s.pc + BitVec.ofNat 16 i.size }) ∧
    (∀ (i : Instr) (s : State), execWith baseCycles i s = exec i s) ∧
    ∀ s : State, stepWith baseCycles s = step s

/-- O56. Runs of one state with two cycle tables end alike in everything but CYC, unless a predicate reads CYC (70_reset_and_hazards.md R267, 00_scope.md R9, 92_eei_decisions.md D11, 60_exceptions.md R248, assumption log 10). The table as an argument of execWith, stepWith and run is how the model takes the parameter BaseCycles (log 10). -/
def Obligations.CycleTableReachesOnlyCyc : Prop :=
  ∀ (table other : BaseCycles) (ev : Evaluator) (fuel : Nat) (s : State) (c : Counter), IgnoresCyc ev →
    SameButCyc (run table ev fuel s) (run other ev fuel { s with cyc := c })
end

