-- ==== Sys2Proof/Laws/Bits.lean ====
section
/-! SUPPORT. Splitting a word into bytes and joining them. -/

namespace Sys2Proof

@[simp] theorem joinBytes_hi8_lo8 (w : Word) : joinBytes (hi8 w) (lo8 w) = w := by
  unfold joinBytes hi8 lo8
  apply BitVec.eq_of_getLsbD_eq
  intro i hi
  rw [BitVec.getLsbD_append]
  by_cases h : i < 8
  · simp [h]
  · have : i - 8 < 8 := by omega
    have e : 8 + (i - 8) = i := by omega
    simp [h, this, e]

@[simp] theorem lo8_joinBytes (hi lo : Byte) : lo8 (joinBytes hi lo) = lo := by
  unfold joinBytes lo8
  apply BitVec.eq_of_getLsbD_eq
  intro i hi
  rw [BitVec.getLsbD_extractLsb', BitVec.getLsbD_append]
  simp [hi]

@[simp] theorem hi8_joinBytes (hi lo : Byte) : hi8 (joinBytes hi lo) = hi := by
  unfold joinBytes hi8
  apply BitVec.eq_of_getLsbD_eq
  intro i hi
  rw [BitVec.getLsbD_extractLsb', BitVec.getLsbD_append]
  simp [hi]

/-- `zext_16` keeps the number. -/
@[simp] theorem zext16_toNat (b : Byte) : (zext16 b).toNat = b.toNat := by
  have := b.isLt
  simp only [zext16, BitVec.toNat_setWidth]
  omega

/-- A joined word as a number (00_scope.md R6). -/
theorem joinBytes_toNat (hi lo : Byte) : (joinBytes hi lo).toNat = hi.toNat * 256 + lo.toNat := by
  simp only [joinBytes, BitVec.toNat_append]
  rw [Nat.shiftLeft_eq, Nat.mul_comm, ← Nat.two_pow_add_eq_or_of_lt lo.isLt]

/-- The page of an address as a number. -/
theorem hi8_toNat (w : Word) : (hi8 w).toNat = w.toNat / 256 := by
  have := w.isLt
  simp only [hi8, BitVec.extractLsb'_toNat, Nat.shiftRight_eq_div_pow]
  omega

theorem lo8_toNat (w : Word) : (lo8 w).toNat = w.toNat % 256 := by
  simp [lo8, BitVec.extractLsb'_toNat]

/-- Two addresses are in different pages. -/
theorem hi8_bne (a b : Word) : (hi8 a != hi8 b) = !decide (a.toNat / 256 = b.toNat / 256) := by
  rw [← hi8_toNat, ← hi8_toNat, Bool.eq_iff_iff]
  simp [BitVec.toNat_inj]

end Sys2Proof
end

