-- ==== Sys2Proof/Laws/State.lean ====
section
/-! SUPPORT. One lemma per field per update of the state: what each register writer, memory write, stack operation and accounting
step leaves in each field. -/

namespace Sys2Proof.Machine

section writers
variable (s : State)

@[simp] theorem State.setA_a (v : Byte) : (s.setA v).a = v := rfl
@[simp] theorem State.setA_x (v : Byte) : (s.setA v).x = s.x := rfl
@[simp] theorem State.setA_y (v : Byte) : (s.setA v).y = s.y := rfl
@[simp] theorem State.setA_sp (v : Byte) : (s.setA v).sp = s.sp := rfl
@[simp] theorem State.setA_pc (v : Byte) : (s.setA v).pc = s.pc := rfl
@[simp] theorem State.setA_p (v : Byte) : (s.setA v).p = s.p := rfl
@[simp] theorem State.setA_cyc (v : Byte) : (s.setA v).cyc = s.cyc := rfl
@[simp] theorem State.setA_ins (v : Byte) : (s.setA v).ins = s.ins := rfl
@[simp] theorem State.setA_run (v : Byte) : (s.setA v).run = s.run := rfl
@[simp] theorem State.setA_mem (v : Byte) : (s.setA v).mem = s.mem := rfl

@[simp] theorem State.setX_a (v : Byte) : (s.setX v).a = s.a := rfl
@[simp] theorem State.setX_x (v : Byte) : (s.setX v).x = v := rfl
@[simp] theorem State.setX_y (v : Byte) : (s.setX v).y = s.y := rfl
@[simp] theorem State.setX_sp (v : Byte) : (s.setX v).sp = s.sp := rfl
@[simp] theorem State.setX_pc (v : Byte) : (s.setX v).pc = s.pc := rfl
@[simp] theorem State.setX_p (v : Byte) : (s.setX v).p = s.p := rfl
@[simp] theorem State.setX_cyc (v : Byte) : (s.setX v).cyc = s.cyc := rfl
@[simp] theorem State.setX_ins (v : Byte) : (s.setX v).ins = s.ins := rfl
@[simp] theorem State.setX_run (v : Byte) : (s.setX v).run = s.run := rfl
@[simp] theorem State.setX_mem (v : Byte) : (s.setX v).mem = s.mem := rfl

@[simp] theorem State.setY_a (v : Byte) : (s.setY v).a = s.a := rfl
@[simp] theorem State.setY_x (v : Byte) : (s.setY v).x = s.x := rfl
@[simp] theorem State.setY_y (v : Byte) : (s.setY v).y = v := rfl
@[simp] theorem State.setY_sp (v : Byte) : (s.setY v).sp = s.sp := rfl
@[simp] theorem State.setY_pc (v : Byte) : (s.setY v).pc = s.pc := rfl
@[simp] theorem State.setY_p (v : Byte) : (s.setY v).p = s.p := rfl
@[simp] theorem State.setY_cyc (v : Byte) : (s.setY v).cyc = s.cyc := rfl
@[simp] theorem State.setY_ins (v : Byte) : (s.setY v).ins = s.ins := rfl
@[simp] theorem State.setY_run (v : Byte) : (s.setY v).run = s.run := rfl
@[simp] theorem State.setY_mem (v : Byte) : (s.setY v).mem = s.mem := rfl

@[simp] theorem State.setSp_a (v : Byte) : (s.setSp v).a = s.a := rfl
@[simp] theorem State.setSp_x (v : Byte) : (s.setSp v).x = s.x := rfl
@[simp] theorem State.setSp_y (v : Byte) : (s.setSp v).y = s.y := rfl
@[simp] theorem State.setSp_sp (v : Byte) : (s.setSp v).sp = v := rfl
@[simp] theorem State.setSp_pc (v : Byte) : (s.setSp v).pc = s.pc := rfl
@[simp] theorem State.setSp_p (v : Byte) : (s.setSp v).p = s.p := rfl
@[simp] theorem State.setSp_cyc (v : Byte) : (s.setSp v).cyc = s.cyc := rfl
@[simp] theorem State.setSp_ins (v : Byte) : (s.setSp v).ins = s.ins := rfl
@[simp] theorem State.setSp_run (v : Byte) : (s.setSp v).run = s.run := rfl
@[simp] theorem State.setSp_mem (v : Byte) : (s.setSp v).mem = s.mem := rfl

@[simp] theorem State.setPc_a (v : Word) : (s.setPc v).a = s.a := rfl
@[simp] theorem State.setPc_x (v : Word) : (s.setPc v).x = s.x := rfl
@[simp] theorem State.setPc_y (v : Word) : (s.setPc v).y = s.y := rfl
@[simp] theorem State.setPc_sp (v : Word) : (s.setPc v).sp = s.sp := rfl
@[simp] theorem State.setPc_pc (v : Word) : (s.setPc v).pc = v := rfl
@[simp] theorem State.setPc_p (v : Word) : (s.setPc v).p = s.p := rfl
@[simp] theorem State.setPc_cyc (v : Word) : (s.setPc v).cyc = s.cyc := rfl
@[simp] theorem State.setPc_ins (v : Word) : (s.setPc v).ins = s.ins := rfl
@[simp] theorem State.setPc_run (v : Word) : (s.setPc v).run = s.run := rfl
@[simp] theorem State.setPc_mem (v : Word) : (s.setPc v).mem = s.mem := rfl

@[simp] theorem State.setP_a (v : Byte) : (s.setP v).a = s.a := rfl
@[simp] theorem State.setP_x (v : Byte) : (s.setP v).x = s.x := rfl
@[simp] theorem State.setP_y (v : Byte) : (s.setP v).y = s.y := rfl
@[simp] theorem State.setP_sp (v : Byte) : (s.setP v).sp = s.sp := rfl
@[simp] theorem State.setP_pc (v : Byte) : (s.setP v).pc = s.pc := rfl
@[simp] theorem State.setP_p (v : Byte) : (s.setP v).p = v := rfl
@[simp] theorem State.setP_cyc (v : Byte) : (s.setP v).cyc = s.cyc := rfl
@[simp] theorem State.setP_ins (v : Byte) : (s.setP v).ins = s.ins := rfl
@[simp] theorem State.setP_run (v : Byte) : (s.setP v).run = s.run := rfl
@[simp] theorem State.setP_mem (v : Byte) : (s.setP v).mem = s.mem := rfl

@[simp] theorem State.setCyc_a (v : Counter) : (s.setCyc v).a = s.a := rfl
@[simp] theorem State.setCyc_x (v : Counter) : (s.setCyc v).x = s.x := rfl
@[simp] theorem State.setCyc_y (v : Counter) : (s.setCyc v).y = s.y := rfl
@[simp] theorem State.setCyc_sp (v : Counter) : (s.setCyc v).sp = s.sp := rfl
@[simp] theorem State.setCyc_pc (v : Counter) : (s.setCyc v).pc = s.pc := rfl
@[simp] theorem State.setCyc_p (v : Counter) : (s.setCyc v).p = s.p := rfl
@[simp] theorem State.setCyc_cyc (v : Counter) : (s.setCyc v).cyc = v := rfl
@[simp] theorem State.setCyc_ins (v : Counter) : (s.setCyc v).ins = s.ins := rfl
@[simp] theorem State.setCyc_run (v : Counter) : (s.setCyc v).run = s.run := rfl
@[simp] theorem State.setCyc_mem (v : Counter) : (s.setCyc v).mem = s.mem := rfl

@[simp] theorem State.setIns_a (v : Counter) : (s.setIns v).a = s.a := rfl
@[simp] theorem State.setIns_x (v : Counter) : (s.setIns v).x = s.x := rfl
@[simp] theorem State.setIns_y (v : Counter) : (s.setIns v).y = s.y := rfl
@[simp] theorem State.setIns_sp (v : Counter) : (s.setIns v).sp = s.sp := rfl
@[simp] theorem State.setIns_pc (v : Counter) : (s.setIns v).pc = s.pc := rfl
@[simp] theorem State.setIns_p (v : Counter) : (s.setIns v).p = s.p := rfl
@[simp] theorem State.setIns_cyc (v : Counter) : (s.setIns v).cyc = s.cyc := rfl
@[simp] theorem State.setIns_ins (v : Counter) : (s.setIns v).ins = v := rfl
@[simp] theorem State.setIns_run (v : Counter) : (s.setIns v).run = s.run := rfl
@[simp] theorem State.setIns_mem (v : Counter) : (s.setIns v).mem = s.mem := rfl

@[simp] theorem State.setRun_a (v : RunState) : (s.setRun v).a = s.a := rfl
@[simp] theorem State.setRun_x (v : RunState) : (s.setRun v).x = s.x := rfl
@[simp] theorem State.setRun_y (v : RunState) : (s.setRun v).y = s.y := rfl
@[simp] theorem State.setRun_sp (v : RunState) : (s.setRun v).sp = s.sp := rfl
@[simp] theorem State.setRun_pc (v : RunState) : (s.setRun v).pc = s.pc := rfl
@[simp] theorem State.setRun_p (v : RunState) : (s.setRun v).p = s.p := rfl
@[simp] theorem State.setRun_cyc (v : RunState) : (s.setRun v).cyc = s.cyc := rfl
@[simp] theorem State.setRun_ins (v : RunState) : (s.setRun v).ins = s.ins := rfl
@[simp] theorem State.setRun_run (v : RunState) : (s.setRun v).run = v := rfl
@[simp] theorem State.setRun_mem (v : RunState) : (s.setRun v).mem = s.mem := rfl

@[simp] theorem State.setMem_a (v : Memory) : (s.setMem v).a = s.a := rfl
@[simp] theorem State.setMem_x (v : Memory) : (s.setMem v).x = s.x := rfl
@[simp] theorem State.setMem_y (v : Memory) : (s.setMem v).y = s.y := rfl
@[simp] theorem State.setMem_sp (v : Memory) : (s.setMem v).sp = s.sp := rfl
@[simp] theorem State.setMem_pc (v : Memory) : (s.setMem v).pc = s.pc := rfl
@[simp] theorem State.setMem_p (v : Memory) : (s.setMem v).p = s.p := rfl
@[simp] theorem State.setMem_cyc (v : Memory) : (s.setMem v).cyc = s.cyc := rfl
@[simp] theorem State.setMem_ins (v : Memory) : (s.setMem v).ins = s.ins := rfl
@[simp] theorem State.setMem_run (v : Memory) : (s.setMem v).run = s.run := rfl
@[simp] theorem State.setMem_mem (v : Memory) : (s.setMem v).mem = v := rfl

@[simp] theorem State.setA_readByte (v : Byte) (k : Word) : (s.setA v).readByte k = s.readByte k := rfl
@[simp] theorem State.setX_readByte (v : Byte) (k : Word) : (s.setX v).readByte k = s.readByte k := rfl
@[simp] theorem State.setY_readByte (v : Byte) (k : Word) : (s.setY v).readByte k = s.readByte k := rfl
@[simp] theorem State.setSp_readByte (v : Byte) (k : Word) : (s.setSp v).readByte k = s.readByte k := rfl
@[simp] theorem State.setPc_readByte (v : Word) (k : Word) : (s.setPc v).readByte k = s.readByte k := rfl
@[simp] theorem State.setP_readByte (v : Byte) (k : Word) : (s.setP v).readByte k = s.readByte k := rfl
@[simp] theorem State.setCyc_readByte (v : Counter) (k : Word) : (s.setCyc v).readByte k = s.readByte k := rfl
@[simp] theorem State.setIns_readByte (v : Counter) (k : Word) : (s.setIns v).readByte k = s.readByte k := rfl
@[simp] theorem State.setRun_readByte (v : RunState) (k : Word) : (s.setRun v).readByte k = s.readByte k := rfl
@[simp] theorem State.setA_readWord (v : Byte) (k : Word) : (s.setA v).readWord k = s.readWord k := rfl
@[simp] theorem State.setX_readWord (v : Byte) (k : Word) : (s.setX v).readWord k = s.readWord k := rfl
@[simp] theorem State.setY_readWord (v : Byte) (k : Word) : (s.setY v).readWord k = s.readWord k := rfl
@[simp] theorem State.setSp_readWord (v : Byte) (k : Word) : (s.setSp v).readWord k = s.readWord k := rfl
@[simp] theorem State.setPc_readWord (v : Word) (k : Word) : (s.setPc v).readWord k = s.readWord k := rfl
@[simp] theorem State.setP_readWord (v : Byte) (k : Word) : (s.setP v).readWord k = s.readWord k := rfl
@[simp] theorem State.setCyc_readWord (v : Counter) (k : Word) : (s.setCyc v).readWord k = s.readWord k := rfl
@[simp] theorem State.setIns_readWord (v : Counter) (k : Word) : (s.setIns v).readWord k = s.readWord k := rfl
@[simp] theorem State.setRun_readWord (v : RunState) (k : Word) : (s.setRun v).readWord k = s.readWord k := rfl

@[simp] theorem State.writeByte_a (k : Word) (v : Byte) : (s.writeByte k v).a = s.a := rfl
@[simp] theorem State.writeByte_x (k : Word) (v : Byte) : (s.writeByte k v).x = s.x := rfl
@[simp] theorem State.writeByte_y (k : Word) (v : Byte) : (s.writeByte k v).y = s.y := rfl
@[simp] theorem State.writeByte_sp (k : Word) (v : Byte) : (s.writeByte k v).sp = s.sp := rfl
@[simp] theorem State.writeByte_pc (k : Word) (v : Byte) : (s.writeByte k v).pc = s.pc := rfl
@[simp] theorem State.writeByte_p (k : Word) (v : Byte) : (s.writeByte k v).p = s.p := rfl
@[simp] theorem State.writeByte_cyc (k : Word) (v : Byte) : (s.writeByte k v).cyc = s.cyc := rfl
@[simp] theorem State.writeByte_ins (k : Word) (v : Byte) : (s.writeByte k v).ins = s.ins := rfl
@[simp] theorem State.writeByte_run (k : Word) (v : Byte) : (s.writeByte k v).run = s.run := rfl
@[simp] theorem State.writeByte_mem (k : Word) (v : Byte) : (s.writeByte k v).mem = Memory.write s.mem k.toNat v := rfl

@[simp] theorem loadA_a (v : Byte) : (loadA v s).a = v := rfl
@[simp] theorem loadA_x (v : Byte) : (loadA v s).x = s.x := rfl
@[simp] theorem loadA_y (v : Byte) : (loadA v s).y = s.y := rfl
@[simp] theorem loadA_sp (v : Byte) : (loadA v s).sp = s.sp := rfl
@[simp] theorem loadA_pc (v : Byte) : (loadA v s).pc = s.pc := rfl
@[simp] theorem loadA_p (v : Byte) : (loadA v s).p = setNZ v s.p := rfl
@[simp] theorem loadA_cyc (v : Byte) : (loadA v s).cyc = s.cyc := rfl
@[simp] theorem loadA_ins (v : Byte) : (loadA v s).ins = s.ins := rfl
@[simp] theorem loadA_run (v : Byte) : (loadA v s).run = s.run := rfl
@[simp] theorem loadA_mem (v : Byte) : (loadA v s).mem = s.mem := rfl

@[simp] theorem loadX_a (v : Byte) : (loadX v s).a = s.a := rfl
@[simp] theorem loadX_x (v : Byte) : (loadX v s).x = v := rfl
@[simp] theorem loadX_y (v : Byte) : (loadX v s).y = s.y := rfl
@[simp] theorem loadX_sp (v : Byte) : (loadX v s).sp = s.sp := rfl
@[simp] theorem loadX_pc (v : Byte) : (loadX v s).pc = s.pc := rfl
@[simp] theorem loadX_p (v : Byte) : (loadX v s).p = setNZ v s.p := rfl
@[simp] theorem loadX_cyc (v : Byte) : (loadX v s).cyc = s.cyc := rfl
@[simp] theorem loadX_ins (v : Byte) : (loadX v s).ins = s.ins := rfl
@[simp] theorem loadX_run (v : Byte) : (loadX v s).run = s.run := rfl
@[simp] theorem loadX_mem (v : Byte) : (loadX v s).mem = s.mem := rfl

@[simp] theorem loadY_a (v : Byte) : (loadY v s).a = s.a := rfl
@[simp] theorem loadY_x (v : Byte) : (loadY v s).x = s.x := rfl
@[simp] theorem loadY_y (v : Byte) : (loadY v s).y = v := rfl
@[simp] theorem loadY_sp (v : Byte) : (loadY v s).sp = s.sp := rfl
@[simp] theorem loadY_pc (v : Byte) : (loadY v s).pc = s.pc := rfl
@[simp] theorem loadY_p (v : Byte) : (loadY v s).p = setNZ v s.p := rfl
@[simp] theorem loadY_cyc (v : Byte) : (loadY v s).cyc = s.cyc := rfl
@[simp] theorem loadY_ins (v : Byte) : (loadY v s).ins = s.ins := rfl
@[simp] theorem loadY_run (v : Byte) : (loadY v s).run = s.run := rfl
@[simp] theorem loadY_mem (v : Byte) : (loadY v s).mem = s.mem := rfl

@[simp] theorem push8_a (v : Byte) : (push8 v s).a = s.a := rfl
@[simp] theorem push8_x (v : Byte) : (push8 v s).x = s.x := rfl
@[simp] theorem push8_y (v : Byte) : (push8 v s).y = s.y := rfl
@[simp] theorem push8_sp (v : Byte) : (push8 v s).sp = s.sp - 1 := rfl
@[simp] theorem push8_pc (v : Byte) : (push8 v s).pc = s.pc := rfl
@[simp] theorem push8_p (v : Byte) : (push8 v s).p = s.p := rfl
@[simp] theorem push8_cyc (v : Byte) : (push8 v s).cyc = s.cyc := rfl
@[simp] theorem push8_ins (v : Byte) : (push8 v s).ins = s.ins := rfl
@[simp] theorem push8_run (v : Byte) : (push8 v s).run = s.run := rfl
@[simp] theorem push8_mem (v : Byte) : (push8 v s).mem = Memory.write s.mem (stackAddr s.sp).toNat v := rfl

@[simp] theorem push16_a (w : Word) : (push16 w s).a = s.a := rfl
@[simp] theorem push16_x (w : Word) : (push16 w s).x = s.x := rfl
@[simp] theorem push16_y (w : Word) : (push16 w s).y = s.y := rfl
@[simp] theorem push16_sp (w : Word) : (push16 w s).sp = s.sp - 1 - 1 := rfl
@[simp] theorem push16_pc (w : Word) : (push16 w s).pc = s.pc := rfl
@[simp] theorem push16_p (w : Word) : (push16 w s).p = s.p := rfl
@[simp] theorem push16_cyc (w : Word) : (push16 w s).cyc = s.cyc := rfl
@[simp] theorem push16_ins (w : Word) : (push16 w s).ins = s.ins := rfl
@[simp] theorem push16_run (w : Word) : (push16 w s).run = s.run := rfl

@[simp] theorem pop8State_a : (pop8State s).a = s.a := rfl
@[simp] theorem pop8State_x : (pop8State s).x = s.x := rfl
@[simp] theorem pop8State_y : (pop8State s).y = s.y := rfl
@[simp] theorem pop8State_sp : (pop8State s).sp = s.sp + 1 := rfl
@[simp] theorem pop8State_pc : (pop8State s).pc = s.pc := rfl
@[simp] theorem pop8State_p : (pop8State s).p = s.p := rfl
@[simp] theorem pop8State_cyc : (pop8State s).cyc = s.cyc := rfl
@[simp] theorem pop8State_ins : (pop8State s).ins = s.ins := rfl
@[simp] theorem pop8State_run : (pop8State s).run = s.run := rfl
@[simp] theorem pop8State_mem : (pop8State s).mem = s.mem := rfl

@[simp] theorem pop16State_a : (pop16State s).a = s.a := by simp [pop16State]
@[simp] theorem pop16State_x : (pop16State s).x = s.x := by simp [pop16State]
@[simp] theorem pop16State_y : (pop16State s).y = s.y := by simp [pop16State]
@[simp] theorem pop16State_sp : (pop16State s).sp = s.sp + 1 + 1 := by simp [pop16State]
@[simp] theorem pop16State_pc : (pop16State s).pc = s.pc := by simp [pop16State]
@[simp] theorem pop16State_p : (pop16State s).p = s.p := by simp [pop16State]
@[simp] theorem pop16State_cyc : (pop16State s).cyc = s.cyc := by simp [pop16State]
@[simp] theorem pop16State_ins : (pop16State s).ins = s.ins := by simp [pop16State]
@[simp] theorem pop16State_run : (pop16State s).run = s.run := by simp [pop16State]
@[simp] theorem pop16State_mem : (pop16State s).mem = s.mem := by simp [pop16State]

@[simp] theorem takeBreak_a : (takeBreak s).a = s.a := by simp [takeBreak]
@[simp] theorem takeBreak_x : (takeBreak s).x = s.x := by simp [takeBreak]
@[simp] theorem takeBreak_y : (takeBreak s).y = s.y := by simp [takeBreak]
@[simp] theorem takeBreak_sp : (takeBreak s).sp = s.sp - 1 - 1 - 1 := by simp [takeBreak]
@[simp] theorem takeBreak_p : (takeBreak s).p = setFlag .i true s.p := by simp [takeBreak]
@[simp] theorem takeBreak_cyc : (takeBreak s).cyc = s.cyc := by simp [takeBreak]
@[simp] theorem takeBreak_ins : (takeBreak s).ins = s.ins := by simp [takeBreak]
@[simp] theorem takeBreak_run : (takeBreak s).run = s.run := by simp [takeBreak]

@[simp] theorem returnFromBreak_a : (returnFromBreak s).a = s.a := by simp [returnFromBreak]
@[simp] theorem returnFromBreak_x : (returnFromBreak s).x = s.x := by simp [returnFromBreak]
@[simp] theorem returnFromBreak_y : (returnFromBreak s).y = s.y := by simp [returnFromBreak]
@[simp] theorem returnFromBreak_sp : (returnFromBreak s).sp = s.sp + 1 + 1 + 1 := by simp [returnFromBreak]
@[simp] theorem returnFromBreak_pc : (returnFromBreak s).pc = pop16Value (pop8State s) := by simp [returnFromBreak]
@[simp] theorem returnFromBreak_p : (returnFromBreak s).p = restoredP (pop8Value s) := by simp [returnFromBreak]
@[simp] theorem returnFromBreak_cyc : (returnFromBreak s).cyc = s.cyc := by simp [returnFromBreak]
@[simp] theorem returnFromBreak_ins : (returnFromBreak s).ins = s.ins := by simp [returnFromBreak]
@[simp] theorem returnFromBreak_run : (returnFromBreak s).run = s.run := by simp [returnFromBreak]
@[simp] theorem returnFromBreak_mem : (returnFromBreak s).mem = s.mem := by simp [returnFromBreak]

@[simp] theorem haltIllegal_a : (haltIllegal s).a = s.a := rfl
@[simp] theorem haltIllegal_x : (haltIllegal s).x = s.x := rfl
@[simp] theorem haltIllegal_y : (haltIllegal s).y = s.y := rfl
@[simp] theorem haltIllegal_sp : (haltIllegal s).sp = s.sp := rfl
@[simp] theorem haltIllegal_pc : (haltIllegal s).pc = s.pc := rfl
@[simp] theorem haltIllegal_p : (haltIllegal s).p = s.p := rfl
@[simp] theorem haltIllegal_cyc : (haltIllegal s).cyc = s.cyc := rfl
@[simp] theorem haltIllegal_ins : (haltIllegal s).ins = s.ins := rfl
@[simp] theorem haltIllegal_run : (haltIllegal s).run = .stopped (.illegalOpcode (s.readByte s.pc) s.pc) := rfl
@[simp] theorem haltIllegal_mem : (haltIllegal s).mem = s.mem := rfl

@[simp] theorem account_a (n : Nat) : (account n s).a = s.a := rfl
@[simp] theorem account_x (n : Nat) : (account n s).x = s.x := rfl
@[simp] theorem account_y (n : Nat) : (account n s).y = s.y := rfl
@[simp] theorem account_sp (n : Nat) : (account n s).sp = s.sp := rfl
@[simp] theorem account_pc (n : Nat) : (account n s).pc = s.pc := rfl
@[simp] theorem account_p (n : Nat) : (account n s).p = s.p := rfl
@[simp] theorem account_cyc (n : Nat) : (account n s).cyc = s.cyc + BitVec.ofNat 64 n := rfl
@[simp] theorem account_ins (n : Nat) : (account n s).ins = s.ins + 1 := rfl
@[simp] theorem account_run (n : Nat) : (account n s).run = s.run := rfl
@[simp] theorem account_mem (n : Nat) : (account n s).mem = s.mem := rfl

@[simp] theorem loadA_readByte (v : Byte) (k : Word) : (loadA v s).readByte k = s.readByte k := by simp [State.readByte]
@[simp] theorem loadX_readByte (v : Byte) (k : Word) : (loadX v s).readByte k = s.readByte k := by simp [State.readByte]
@[simp] theorem loadY_readByte (v : Byte) (k : Word) : (loadY v s).readByte k = s.readByte k := by simp [State.readByte]
@[simp] theorem pop8State_readByte (k : Word) : (pop8State s).readByte k = s.readByte k := by simp [State.readByte]
@[simp] theorem pop16State_readByte (k : Word) : (pop16State s).readByte k = s.readByte k := by simp [State.readByte]
@[simp] theorem returnFromBreak_readByte (k : Word) : (returnFromBreak s).readByte k = s.readByte k := by simp [State.readByte]
@[simp] theorem haltIllegal_readByte (k : Word) : (haltIllegal s).readByte k = s.readByte k := by simp [State.readByte]
@[simp] theorem account_readByte (n : Nat) (k : Word) : (account n s).readByte k = s.readByte k := by simp [State.readByte]

end writers

end Sys2Proof.Machine
end

