-- ==== Sys2Proof/Laws/CycleTable.lean ====
section
/-! SUPPORT. What a cycle table in place of the default changes: CYC, and by how much (70_reset_and_hazards.md R267). -/

namespace Sys2Proof.Machine

section recount
variable (table : BaseCycles) (op : Byte) (s : State)

@[simp] theorem recount_a : (recount table op s).a = s.a := rfl
@[simp] theorem recount_x : (recount table op s).x = s.x := rfl
@[simp] theorem recount_y : (recount table op s).y = s.y := rfl
@[simp] theorem recount_sp : (recount table op s).sp = s.sp := rfl
@[simp] theorem recount_pc : (recount table op s).pc = s.pc := rfl
@[simp] theorem recount_p : (recount table op s).p = s.p := rfl
@[simp] theorem recount_cyc :
    (recount table op s).cyc = s.cyc - BitVec.ofNat 64 (baseCycles op) + BitVec.ofNat 64 (table op) := rfl
@[simp] theorem recount_ins : (recount table op s).ins = s.ins := rfl
@[simp] theorem recount_run : (recount table op s).run = s.run := rfl
@[simp] theorem recount_mem : (recount table op s).mem = s.mem := rfl

end recount

/-- An instruction that retires with the default's count retires with the table's. -/
theorem recount_account (table : BaseCycles) (op : Byte) (extra : Nat) (s : State) :
    recount table op (account (baseCycles op + extra) s) = account (table op + extra) s := by
  simp only [recount, account, State.setCyc, State.setIns, BitVec.ofNat_add]
  congr 1
  generalize BitVec.ofNat 64 (baseCycles op) = a
  generalize BitVec.ofNat 64 (table op) = b
  bv_omega

/-- An instruction that completes with the default's count completes with the table's. -/
theorem execWith_of_exec {table : BaseCycles} {i : Instr} {s u : State} {extra : Nat}
    (h : exec i s = .next (account (baseCycles i.opcode + extra) u)) :
    execWith table i s = .next (account (table i.opcode + extra) u) := by
  simp only [execWith, h, onNext, recount_account]

/-- The default in its own place changes nothing. -/
theorem recount_default (op : Byte) (s : State) : recount baseCycles op s = s := by
  simp only [recount, State.setCyc, BitVec.sub_add_cancel]

theorem execWith_default (i : Instr) (s : State) : execWith baseCycles i s = exec i s := by
  unfold execWith
  cases exec i s <;> simp only [onNext, recount_default]

theorem stepWith_default (s : State) : stepWith baseCycles s = step s := by
  rw [stepWith, step, funext fun i => funext fun s => execWith_default i s]

end Sys2Proof.Machine
end

