-- ==== Sys2Proof/Laws/Execute.lean ====
section
/-! SUPPORT. Each shape of the execute phase answers a next state, named outright, so that a meaning is unfolded once. -/

namespace Sys2Proof.Machine

theorem retire_eq (op : Byte) (c : Bool) (b : Nat) (s : State) :
    retire op c b s = .next (account (baseCycles op + extraCycles op c b) s) := rfl

theorem implied_eq (op : Byte) (s : State) : implied op s = .next (account (baseCycles op + extraCycles op false 0) s) := rfl

theorem immediate_eq (op : Byte) (e : Byte → State → State) (nn : Byte) (s : State) :
    immediate op e nn s = .next (account (baseCycles op + extraCycles op false 0) (e nn s)) := rfl

theorem readMem_eq (op : Byte) (e : Byte → State → State) (r : Resolved) (s : State) :
    readMem op e r s = .next (account (baseCycles op + extraCycles op r.crossed 0) (e (s.readByte r.ea) s)) := rfl

theorem storeMem_eq (op : Byte) (v : Byte) (r : Resolved) (s : State) :
    storeMem op v r s = .next (account (baseCycles op + extraCycles op r.crossed 0) (s.writeByte r.ea v)) := rfl

theorem rmwMem_eq (op : Byte) (f : Byte → Byte → ByteAndStatus) (r : Resolved) (s : State) :
    rmwMem op f r s = .next (account (baseCycles op + extraCycles op r.crossed 0)
      ((s.writeByte r.ea (f (s.readByte r.ea) s.p).value).setP (f (s.readByte r.ea) s.p).p)) := rfl

theorem rmwAcc_eq (op : Byte) (f : Byte → Byte → ByteAndStatus) (s : State) :
    rmwAcc op f s = .next (account (baseCycles op + extraCycles op false 0)
      ((s.setA (f s.a s.p).value).setP (f s.a s.p).p)) := rfl

theorem branch_eq (op : Byte) (cond : Bool) (disp : Byte) (s : State) :
    branch op cond disp s = .next (account
      (baseCycles op + extraCycles op false (if cond then takenExtra (branchTarget disp s.pc) s.pc else 0))
      (s.setPc (if cond then branchTarget disp s.pc else s.pc))) := by
  cases cond <;> rfl

end Sys2Proof.Machine
end

