-- ==== Sys2Proof/Laws/Flags.lean ====
section
/-! SUPPORT. The flag computations, bit by bit: what each leaves in each bit of P (10_state.md R16). -/

namespace Sys2Proof.Machine

/-- Bit `k` of P after one flag is written. -/
@[simp] theorem setFlag_getLsbD (f : Flag) (b : Bool) (p : Byte) (k : Nat) (hk : k < 8) :
    (setFlag f b p).getLsbD k = if k = f.bit then b else p.getLsbD k := by
  have hf : f.bit < 8 := by cases f <;> decide
  unfold setFlag
  cases b <;> by_cases h : k = f.bit <;>
    simp only [Bool.false_eq_true, if_true, if_false, BitVec.getLsbD_or, BitVec.getLsbD_and, BitVec.getLsbD_not,
      BitVec.getLsbD_twoPow, hk, hf, h, decide_true, Bool.true_and, Bool.or_true, Bool.not_true, Bool.and_false] <;>
    simp [Ne.symm h]

theorem getFlag_setFlag (f g : Flag) (b : Bool) (p : Byte) :
    getFlag g (setFlag f b p) = if g = f then b else getFlag g p := by
  have hg : g.bit < 8 := by cases g <;> decide
  have : (g.bit = f.bit) ↔ g = f := by cases f <;> cases g <;> decide
  simp only [getFlag, setFlag_getLsbD _ _ _ _ hg, this]

/-- Bit `k` of P after SetNZ (40_step_and_addressing.md R124). -/
theorem setNZ_getLsbD (v p : Byte) (k : Nat) (hk : k < 8) :
    (setNZ v p).getLsbD k = if k = 7 then v.getLsbD 7 else if k = 1 then v == 0 else p.getLsbD k := by
  simp only [setNZ, setFlag_getLsbD _ _ _ _ hk, Flag.bit, bit7]
  rfl

/-- Bit `k` of P after C, Z, N and V are written. -/
theorem withCznv_getLsbD (r : Byte) (c z n v : Bool) (p : Byte) (k : Nat) (hk : k < 8) :
    (withCznv r c z n v p).p.getLsbD k =
      if k = 6 then v else if k = 7 then n else if k = 1 then z else if k = 0 then c else p.getLsbD k := by
  simp only [withCznv, setFlag_getLsbD _ _ _ _ hk, Flag.bit]
  rfl

@[simp] theorem withCznv_value (r : Byte) (c z n v : Bool) (p : Byte) : (withCznv r c z n v p).value = r := rfl

/-- Bit `k` of the stacked copy: bits 4 and 5 are 1 (10_state.md R18). -/
theorem stackedP_getLsbD (p : Byte) (k : Nat) (hk : k < 8) :
    (stackedP p).getLsbD k = if k = 4 ∨ k = 5 then true else p.getLsbD k := by
  have : ∀ k < 8, BitVec.getLsbD (0x30 : Byte) k = decide (k = 4 ∨ k = 5) := by decide
  unfold stackedP
  rw [BitVec.getLsbD_or, this k hk]
  by_cases h : k = 4 ∨ k = 5 <;> simp [h]

/-- Bit `k` of what RTI loads: bits 4 and 5 are 0 (45_stack_system_flags.md R215). -/
theorem restoredP_getLsbD (p : Byte) (k : Nat) (hk : k < 8) :
    (restoredP p).getLsbD k = if k = 4 ∨ k = 5 then false else p.getLsbD k := by
  have : ∀ k < 8, BitVec.getLsbD (0xCF : Byte) k = !decide (k = 4 ∨ k = 5) := by decide
  unfold restoredP
  rw [BitVec.getLsbD_and, this k hk]
  by_cases h : k = 4 ∨ k = 5 <;> simp [h]

/-- Bit `k` of P after a compare (42_arithmetic_compare.md R163). -/
theorem compareBytes_getLsbD (reg m p : Byte) (k : Nat) (hk : k < 8) :
    (compareBytes reg m p).getLsbD k =
      if k = 7 then (reg - m).getLsbD 7 else if k = 1 then reg - m == 0
      else if k = 0 then decide (m.toNat ≤ reg.toNat) else p.getLsbD k := by
  simp only [compareBytes, setNZ_getLsbD _ _ _ hk, setFlag_getLsbD _ _ _ _ hk, Flag.bit]
  rfl

/-- Bit `k` of P after BIT (43_incdec_shift_bit.md R180). -/
theorem bitTest_getLsbD (a m p : Byte) (k : Nat) (hk : k < 8) :
    (bitTest a m p).getLsbD k =
      if k = 6 then m.getLsbD 6 else if k = 7 then m.getLsbD 7 else if k = 1 then (a &&& m) == 0 else p.getLsbD k := by
  simp only [bitTest, setFlag_getLsbD _ _ _ _ hk, Flag.bit]
  rfl

/-- In binary mode ADC is the binary addition. -/
theorem adc_binary (a m p : Byte) (h : getFlag .d p = false) : adc a m p = adcBinary a m p := by simp [adc, h]

/-- In binary mode SBC is the binary subtraction. -/
theorem sbc_binary (a m p : Byte) (h : getFlag .d p = false) : sbc a m p = sbcBinary a m p := by simp [sbc, h]

/-- In decimal mode ADC is the open function. -/
theorem adc_decimal (a m p : Byte) (h : getFlag .d p = true) :
    adc a m p = ofDecResult (Config.decAdc a m (getFlag .c p)) p := by simp [adc, h]

/-- In decimal mode SBC is the open function. -/
theorem sbc_decimal (a m p : Byte) (h : getFlag .d p = true) :
    sbc a m p = ofDecResult (Config.decSbc a m (getFlag .c p)) p := by simp [sbc, h]

end Sys2Proof.Machine
end

