-- ==== Sys2Proof/Laws/Memory.lean ====
section
/-! SUPPORT. Memory: every operation keeps the canonical form; a write is seen at its address and nowhere else; memories that read
alike are the same list (20_memory.md R41, R42, R47). -/

namespace Sys2Proof.Machine

theorem Memory.wfFrom_cons {lo k : Nat} {v : Byte} {m : Memory} :
    Memory.wfFrom lo ((k, v) :: m) = true ↔
      lo ≤ k ∧ k < 65536 ∧ v ≠ unlistedByte ∧ Memory.wfFrom (k + 1) m = true := by
  simp [Memory.wfFrom, and_assoc]

theorem Memory.wfFrom_mono {lo lo' : Nat} {m : Memory} (h : lo' ≤ lo) (hm : Memory.wfFrom lo m = true) :
    Memory.wfFrom lo' m = true := by
  cases m with
  | nil => rfl
  | cons c m =>
    obtain ⟨k, v⟩ := c
    rw [Memory.wfFrom_cons] at hm ⊢
    exact ⟨Nat.le_trans h hm.1, hm.2⟩

/-- An address below every listed one reads as unlisted. -/
theorem Memory.read_below {lo a : Nat} {m : Memory} (hm : Memory.wfFrom lo m = true) (h : a < lo) :
    Memory.read m a = unlistedByte := by
  induction m generalizing lo with
  | nil => rfl
  | cons c m ih =>
    obtain ⟨k, v⟩ := c
    rw [Memory.wfFrom_cons] at hm
    have hk : a ≠ k := by omega
    simp only [Memory.read, hk, if_false]
    exact ih hm.2.2.2 (by omega)

/-- A write keeps the canonical form. -/
theorem Memory.wfFrom_write {lo a : Nat} {v : Byte} {m : Memory} (hm : Memory.wfFrom lo m = true) (hlo : lo ≤ a)
    (ha : a < 65536) : Memory.wfFrom lo (Memory.write m a v) = true := by
  induction m generalizing lo with
  | nil =>
    by_cases hv : v = unlistedByte
    · simp [Memory.write, hv, Memory.wfFrom]
    · simp [Memory.write, hv, Memory.wfFrom, hlo, ha]
  | cons c m ih =>
    obtain ⟨k, w⟩ := c
    have hm' := hm
    rw [Memory.wfFrom_cons] at hm'
    obtain ⟨h1, h2, h3, h4⟩ := hm'
    rcases Nat.lt_trichotomy a k with h | h | h
    · by_cases hv : v = unlistedByte
      · simpa [Memory.write, h, hv] using hm
      · simp only [Memory.write, h, hv, if_true, if_false, Memory.wfFrom_cons]
        exact ⟨hlo, ha, hv, h, h2, h3, h4⟩
    · subst h
      by_cases hv : v = unlistedByte
      · simpa [Memory.write, hv] using Memory.wfFrom_mono (by omega) h4
      · simp only [Memory.write, Nat.lt_irrefl, hv, if_true, if_false, Memory.wfFrom_cons]
        exact ⟨h1, ha, hv, h4⟩
    · have n1 : ¬ a < k := by omega
      have n2 : a ≠ k := by omega
      simp only [Memory.write, n1, n2, if_false, Memory.wfFrom_cons]
      exact ⟨h1, h2, h3, ih h4 h⟩

theorem Memory.wf_write {a : Nat} {v : Byte} {m : Memory} (hm : Memory.wf m = true) (ha : a < 65536) :
    Memory.wf (Memory.write m a v) = true :=
  Memory.wfFrom_write hm (Nat.zero_le a) ha

/-- Reading after a write. -/
theorem Memory.readFrom_write {lo a b : Nat} {v : Byte} {m : Memory} (hm : Memory.wfFrom lo m = true) :
    Memory.read (Memory.write m a v) b = if b = a then v else Memory.read m b := by
  induction m generalizing lo with
  | nil =>
    by_cases hv : v = unlistedByte
    · simp [Memory.write, hv, Memory.read]
    · simp [Memory.write, hv, Memory.read]
  | cons c m ih =>
    obtain ⟨k, w⟩ := c
    rw [Memory.wfFrom_cons] at hm
    obtain ⟨h1, h2, h3, h4⟩ := hm
    rcases Nat.lt_trichotomy a k with h | h | h
    · by_cases hv : v = unlistedByte
      · simp only [Memory.write, h, hv, if_true]
        by_cases hb : b = a
        · subst hb
          have n2 : b ≠ k := by omega
          simpa [Memory.read, n2] using Memory.read_below h4 (by omega)
        · simp [hb]
      · simp [Memory.write, h, hv, Memory.read]
    · subst h
      by_cases hv : v = unlistedByte
      · simp only [Memory.write, Nat.lt_irrefl, hv, if_true, if_false]
        by_cases hb : b = a
        · subst hb
          simpa using Memory.read_below h4 (by omega)
        · simp [Memory.read, hb]
      · by_cases hb : b = a <;> simp [Memory.write, hv, Memory.read, hb]
    · have n1 : ¬ a < k := by omega
      have n2 : a ≠ k := by omega
      simp only [Memory.write, n1, n2, if_false, Memory.read]
      by_cases hb : b = k
      · have : b ≠ a := by omega
        simp [hb, Ne.symm n2]
      · simp [hb, ih h4]

theorem Memory.read_write {m : Memory} (hm : Memory.wf m = true) (a b : Nat) (v : Byte) :
    Memory.read (Memory.write m a v) b = if b = a then v else Memory.read m b :=
  Memory.readFrom_write hm

/-- Two canonical memories that read alike everywhere are the same list. -/
theorem Memory.ext_from {lo lo' : Nat} {m m' : Memory} (hm : Memory.wfFrom lo m = true) (hm' : Memory.wfFrom lo' m' = true)
    (h : ∀ a, a < 65536 → Memory.read m a = Memory.read m' a) : m = m' := by
  induction m generalizing lo lo' m' with
  | nil =>
    cases m' with
    | nil => rfl
    | cons c' m' =>
      obtain ⟨k', v'⟩ := c'
      rw [Memory.wfFrom_cons] at hm'
      have := h k' hm'.2.1
      simp only [Memory.read, if_true] at this
      exact absurd this.symm hm'.2.2.1
  | cons c m ih =>
    obtain ⟨k, v⟩ := c
    rw [Memory.wfFrom_cons] at hm
    cases m' with
    | nil =>
      have := h k hm.2.1
      simp only [Memory.read, if_true] at this
      exact absurd this hm.2.2.1
    | cons c' m' =>
      obtain ⟨k', v'⟩ := c'
      rw [Memory.wfFrom_cons] at hm'
      have hk : k = k' := by
        rcases Nat.lt_trichotomy k k' with hlt | heq | hgt
        · have := h k hm.2.1
          have n : k ≠ k' := by omega
          simp only [Memory.read, n, if_true, if_false] at this
          rw [Memory.read_below hm'.2.2.2 (by omega)] at this
          exact absurd this hm.2.2.1
        · exact heq
        · have := h k' hm'.2.1
          have n : k' ≠ k := by omega
          simp only [Memory.read, n, if_true, if_false] at this
          rw [Memory.read_below hm.2.2.2 (by omega)] at this
          exact absurd this.symm hm'.2.2.1
      subst hk
      have hv : v = v' := by simpa [Memory.read] using h k hm.2.1
      subst hv
      have : m = m' := ih hm.2.2.2 hm'.2.2.2 (fun a ha => by
        by_cases hak : a = k
        · subst hak
          rw [Memory.read_below hm.2.2.2 (by omega), Memory.read_below hm'.2.2.2 (by omega)]
        · simpa [Memory.read, hak] using h a ha)
      rw [this]

/-! ### Memory of a state -/

@[simp] theorem State.writeByte_readByte {s : State} (h : Memory.wf s.mem = true) (k b : Word) (v : Byte) :
    (s.writeByte k v).readByte b = if b = k then v else s.readByte b := by
  have : (b.toNat = k.toNat) ↔ b = k := BitVec.toNat_inj
  simp [State.readByte, Memory.read_write h, this]

theorem State.writeByte_wf {s : State} (h : Memory.wf s.mem = true) (k : Word) (v : Byte) :
    Memory.wf (s.writeByte k v).mem = true := by
  simpa using Memory.wf_write h k.isLt

theorem State.writeWord_wf {s : State} (h : Memory.wf s.mem = true) (k w : Word) :
    Memory.wf (s.writeWord k w).mem = true :=
  State.writeByte_wf (State.writeByte_wf h _ _) _ _

theorem push8_wf {s : State} (h : Memory.wf s.mem = true) (v : Byte) : Memory.wf (push8 v s).mem = true :=
  State.writeByte_wf h _ _

theorem push16_wf {s : State} (h : Memory.wf s.mem = true) (w : Word) : Memory.wf (push16 w s).mem = true :=
  push8_wf (push8_wf h _) _

theorem takeBreak_wf {s : State} (h : Memory.wf s.mem = true) : Memory.wf (takeBreak s).mem = true := by
  simp only [takeBreak, State.setPc_mem, State.setP_mem]
  exact push8_wf (push16_wf h _) _

theorem State.load_wf {s : State} (h : Memory.wf s.mem = true) (a : Word) (bs : List Byte) :
    Memory.wf (s.load a bs).mem = true := by
  induction bs generalizing a s with
  | nil => exact h
  | cons b bs ih => exact ih (State.writeByte_wf h _ _) _

theorem State.setBit_wf {s : State} (h : Memory.wf s.mem = true) (a : Word) (i : Fin 8) :
    Memory.wf (s.setBit a i).mem = true := State.writeByte_wf h _ _

theorem State.clearBit_wf {s : State} (h : Memory.wf s.mem = true) (a : Word) (i : Fin 8) :
    Memory.wf (s.clearBit a i).mem = true := State.writeByte_wf h _ _

theorem reset_memory_wf : Memory.wf State.reset.mem = true := rfl

end Sys2Proof.Machine
end

