-- ==== Sys2Proof/Laws/Operands.lean ====
section
/-! SUPPORT. The addressing modes as numbers (40_step_and_addressing.md R109 to R117, R129). -/

namespace Sys2Proof.Machine

/-- The sum of a base and an index wraps modulo 65,536 (R113). -/
theorem indexed_ea (base : Word) (index : Byte) : (indexed base index).ea.toNat = (base.toNat + index.toNat) % 65536 := by
  simp [indexed]

/-- `crossed` says that the page changed (R113). -/
theorem indexed_crossed (base : Word) (index : Byte) :
    (indexed base index).crossed = !decide ((indexed base index).ea.toNat / 256 = base.toNat / 256) :=
  hi8_bne _ _

@[simp] theorem uncrossed_ea (ea : Word) : (uncrossed ea).ea = ea := rfl

@[simp] theorem uncrossed_crossed (ea : Word) : (uncrossed ea).crossed = false := rfl

/-- The second byte of an indirect JMP's pointer stays in the pointer's page (R115). -/
theorem jmpPointerHigh_toNat (ptr : Word) :
    (jmpPointerHigh ptr).toNat = ptr.toNat / 256 * 256 + (ptr.toNat % 256 + 1) % 256 := by
  have h : (1 : Byte).toNat = 1 := rfl
  simp only [jmpPointerHigh, Config.jmpIndirectPageWrap, if_true, joinBytes_toNat, hi8_toNat, BitVec.toNat_add, lo8_toNat, h]

/-- Below 0xFF a zero-page pointer's second byte is at the next address, whatever ZP_POINTER_WRAP is (R129). -/
theorem zpPointerHigh_of_ne {z : Byte} (h : z ≠ 0xFF) : zpPointerHigh z = zext16 z + 1 := by simp only [zpPointerHigh, h, if_false]

end Sys2Proof.Machine
end

