-- ==== Sys2Proof/Laws/Ops.lean ====
section
/-! SUPPORT. What the stack operations do, said once: the stack page, the bytes a push stores, and a pop after a push. -/

namespace Sys2Proof.Machine

/-- The address SP designates, as a number (10_state.md R13). -/
@[simp] theorem stackAddr_toNat (sp : Byte) : (stackAddr sp).toNat = 256 + sp.toNat := by
  have := sp.isLt
  have h : (0x0100 : Word).toNat = 256 := by decide
  rw [stackAddr, BitVec.toNat_add, zext16_toNat, h]
  omega

/-- Different stack pointers designate different addresses. -/
@[simp] theorem stackAddr_inj {p q : Byte} : stackAddr p = stackAddr q ↔ p = q := by
  constructor
  · intro h
    have := congrArg BitVec.toNat h
    simp only [stackAddr_toNat] at this
    exact BitVec.eq_of_toNat_eq (by omega)
  · intro h
    rw [h]

/-- One byte is stored, at the address SP designates (40_step_and_addressing.md R125). -/
theorem push8_readByte {s : State} (h : Memory.wf s.mem = true) (v : Byte) (k : Word) :
    (push8 v s).readByte k = if k = stackAddr s.sp then v else s.readByte k := by
  simp [push8, h]

/-- A 16-bit push stores the high byte at SP and the low byte below it (40_step_and_addressing.md R127). -/
theorem push16_readByte {s : State} (h : Memory.wf s.mem = true) (w : Word) (k : Word) :
    (push16 w s).readByte k =
      if k = stackAddr (s.sp - 1) then lo8 w else if k = stackAddr s.sp then hi8 w else s.readByte k := by
  rw [push16, push8_readByte (push8_wf h _), push8_readByte h, push8_sp]

/-- A pop after a push gives the byte back. -/
theorem pop8Value_push8 {s : State} (h : Memory.wf s.mem = true) (v : Byte) : pop8Value (push8 v s) = v := by
  simp [pop8Value, push8_readByte h]

/-- A 16-bit pop after a 16-bit push gives the word back. -/
theorem pop16Value_push16 {s : State} (h : Memory.wf s.mem = true) (w : Word) : pop16Value (push16 w s) = w := by
  have ne : s.sp ≠ s.sp - 1#8 := by bv_omega
  simp [pop16Value, pop8Value, push16_readByte h, ne]

/-- The three bytes the trap stores (60_exceptions.md R237). -/
theorem takeBreak_readByte {s : State} (h : Memory.wf s.mem = true) (k : Word) :
    (takeBreak s).readByte k =
      if k = stackAddr (s.sp - 1 - 1) then stackedP s.p
      else if k = stackAddr (s.sp - 1) then lo8 (s.pc + 1)
      else if k = stackAddr s.sp then hi8 (s.pc + 1) else s.readByte k := by
  simp only [takeBreak, State.setPc_readByte, State.setP_readByte]
  rw [push8_readByte (push16_wf h _), push16_readByte h, push16_sp]

/-- The trap's pushes stay in the stack page, so the vector reads as before. -/
theorem takeBreak_pc {s : State} (h : Memory.wf s.mem = true) : (takeBreak s).pc = s.readWord brkVector := by
  have hne : ∀ p : Byte, brkVector ≠ stackAddr p ∧ brkVector + 1 ≠ stackAddr p := by
    intro p
    have hp := p.isLt
    have e1 : brkVector.toNat = 65534 := by decide
    have e2 : (brkVector + 1).toNat = 65535 := by decide
    constructor <;> intro e <;> have h' := congrArg BitVec.toNat e <;> rw [stackAddr_toNat] at h' <;> omega
  simp only [takeBreak, State.setPc_pc, State.readWord]
  rw [push8_readByte (push16_wf h _), push8_readByte (push16_wf h _), push16_readByte h, push16_readByte h]
  simp only [hne, if_false]

end Sys2Proof.Machine
end

