-- ==== Sys2Proof/Laws/PerInstr.lean ====
section
/-! SUPPORT. The family CodeForm of LAWS.json: what is proved of every instruction as syntax, one lemma per constructor. Its code is
well-formed code of the size of its mode, the row of its opcode byte has its mode, and the row builds it back from the operand
bytes. -/

namespace Sys2Proof.Laws.CodeForm

open Sys2Proof

/-- What the family says of an instruction (30_encoding.md R70 to R75). -/
def Statement (i : Instr) : Prop :=
  wellFormedCode (encode i) = true ∧ (encode i).length = i.size ∧ (rowOf i.opcode).map (·.mode) = some i.mode ∧
    decodeBytes i.opcode ((encode i).getD 1 0) ((encode i).getD 2 0) = some i

/-- An instruction without operand bytes. -/
theorem of_f1 {i : Instr} {row : OpRow} {op : Byte} (hc : encode i = [op]) (hw : wellFormedCode [op] = true) (hs : i.size = 1)
    (hr : rowOf op = some row) (hm : row.mode = i.mode) (hf : row.form = .f1 i) : Statement i := by
  simp [Statement, Instr.opcode, hc, hw, hs, hr, hm, decodeBytes, hf, Form.build]

/-- An instruction with one operand byte. -/
theorem of_f2 {i : Instr} {row : OpRow} {op nn : Byte} {mk : Byte → Instr} (hc : encode i = codeF2 op nn)
    (hw : wellFormedCode (codeF2 op nn) = true) (hs : i.size = 2) (hr : rowOf op = some row) (hm : row.mode = i.mode)
    (hf : row.form = .f2 mk) (hi : mk nn = i) : Statement i := by
  have e1 : (codeF2 op nn).headD 0 = op := rfl
  have e2 : (codeF2 op nn).getD 1 0 = nn := rfl
  have e3 : (codeF2 op nn).length = 2 := rfl
  simp only [Statement, Instr.opcode, hc, e1, e2, e3, hw, hs, hr, Option.map_some, hm, decodeBytes, hf, Form.build, hi, and_self]

/-- An instruction with two operand bytes. -/
theorem of_f3 {i : Instr} {row : OpRow} {op : Byte} {w : Word} {mk : Word → Instr} (hc : encode i = codeF3 op w)
    (hw : wellFormedCode (codeF3 op w) = true) (hs : i.size = 3) (hr : rowOf op = some row) (hm : row.mode = i.mode)
    (hf : row.form = .f3 mk) (hi : mk w = i) : Statement i := by
  have e1 : (codeF3 op w).headD 0 = op := rfl
  have e2 : (codeF3 op w).getD 1 0 = lo8 w := rfl
  have e3 : (codeF3 op w).getD 2 0 = hi8 w := rfl
  have e4 : (codeF3 op w).length = 3 := rfl
  simp only [Statement, Instr.opcode, hc, e1, e2, e3, e4, hw, hs, hr, Option.map_some, hm, decodeBytes, hf, Form.build,
    joinBytes_hi8_lo8, hi, and_self]

theorem brk : Statement .brk := of_f1 rfl rfl rfl rfl rfl rfl
theorem oraIzx (b : Byte) : Statement (.oraIzx b) := of_f2 rfl rfl rfl rfl rfl rfl rfl
theorem oraZp (b : Byte) : Statement (.oraZp b) := of_f2 rfl rfl rfl rfl rfl rfl rfl
theorem aslZp (b : Byte) : Statement (.aslZp b) := of_f2 rfl rfl rfl rfl rfl rfl rfl
theorem php : Statement .php := of_f1 rfl rfl rfl rfl rfl rfl
theorem oraImm (b : Byte) : Statement (.oraImm b) := of_f2 rfl rfl rfl rfl rfl rfl rfl
theorem aslAcc : Statement .aslAcc := of_f1 rfl rfl rfl rfl rfl rfl
theorem oraAbs (w : Word) : Statement (.oraAbs w) := of_f3 rfl rfl rfl rfl rfl rfl rfl
theorem aslAbs (w : Word) : Statement (.aslAbs w) := of_f3 rfl rfl rfl rfl rfl rfl rfl
theorem bpl (b : Byte) : Statement (.bpl b) := of_f2 rfl rfl rfl rfl rfl rfl rfl
theorem oraIzy (b : Byte) : Statement (.oraIzy b) := of_f2 rfl rfl rfl rfl rfl rfl rfl
theorem oraZpx (b : Byte) : Statement (.oraZpx b) := of_f2 rfl rfl rfl rfl rfl rfl rfl
theorem aslZpx (b : Byte) : Statement (.aslZpx b) := of_f2 rfl rfl rfl rfl rfl rfl rfl
theorem clc : Statement .clc := of_f1 rfl rfl rfl rfl rfl rfl
theorem oraAby (w : Word) : Statement (.oraAby w) := of_f3 rfl rfl rfl rfl rfl rfl rfl
theorem oraAbx (w : Word) : Statement (.oraAbx w) := of_f3 rfl rfl rfl rfl rfl rfl rfl
theorem aslAbx (w : Word) : Statement (.aslAbx w) := of_f3 rfl rfl rfl rfl rfl rfl rfl
theorem jsr (w : Word) : Statement (.jsr w) := of_f3 rfl rfl rfl rfl rfl rfl rfl
theorem andIzx (b : Byte) : Statement (.andIzx b) := of_f2 rfl rfl rfl rfl rfl rfl rfl
theorem bitZp (b : Byte) : Statement (.bitZp b) := of_f2 rfl rfl rfl rfl rfl rfl rfl
theorem andZp (b : Byte) : Statement (.andZp b) := of_f2 rfl rfl rfl rfl rfl rfl rfl
theorem rolZp (b : Byte) : Statement (.rolZp b) := of_f2 rfl rfl rfl rfl rfl rfl rfl
theorem plp : Statement .plp := of_f1 rfl rfl rfl rfl rfl rfl
theorem andImm (b : Byte) : Statement (.andImm b) := of_f2 rfl rfl rfl rfl rfl rfl rfl
theorem rolAcc : Statement .rolAcc := of_f1 rfl rfl rfl rfl rfl rfl
theorem bitAbs (w : Word) : Statement (.bitAbs w) := of_f3 rfl rfl rfl rfl rfl rfl rfl
theorem andAbs (w : Word) : Statement (.andAbs w) := of_f3 rfl rfl rfl rfl rfl rfl rfl
theorem rolAbs (w : Word) : Statement (.rolAbs w) := of_f3 rfl rfl rfl rfl rfl rfl rfl
theorem bmi (b : Byte) : Statement (.bmi b) := of_f2 rfl rfl rfl rfl rfl rfl rfl
theorem andIzy (b : Byte) : Statement (.andIzy b) := of_f2 rfl rfl rfl rfl rfl rfl rfl
theorem andZpx (b : Byte) : Statement (.andZpx b) := of_f2 rfl rfl rfl rfl rfl rfl rfl
theorem rolZpx (b : Byte) : Statement (.rolZpx b) := of_f2 rfl rfl rfl rfl rfl rfl rfl
theorem sec : Statement .sec := of_f1 rfl rfl rfl rfl rfl rfl
theorem andAby (w : Word) : Statement (.andAby w) := of_f3 rfl rfl rfl rfl rfl rfl rfl
theorem andAbx (w : Word) : Statement (.andAbx w) := of_f3 rfl rfl rfl rfl rfl rfl rfl
theorem rolAbx (w : Word) : Statement (.rolAbx w) := of_f3 rfl rfl rfl rfl rfl rfl rfl
theorem rti : Statement .rti := of_f1 rfl rfl rfl rfl rfl rfl
theorem eorIzx (b : Byte) : Statement (.eorIzx b) := of_f2 rfl rfl rfl rfl rfl rfl rfl
theorem eorZp (b : Byte) : Statement (.eorZp b) := of_f2 rfl rfl rfl rfl rfl rfl rfl
theorem lsrZp (b : Byte) : Statement (.lsrZp b) := of_f2 rfl rfl rfl rfl rfl rfl rfl
theorem pha : Statement .pha := of_f1 rfl rfl rfl rfl rfl rfl
theorem eorImm (b : Byte) : Statement (.eorImm b) := of_f2 rfl rfl rfl rfl rfl rfl rfl
theorem lsrAcc : Statement .lsrAcc := of_f1 rfl rfl rfl rfl rfl rfl
theorem jmpAbs (w : Word) : Statement (.jmpAbs w) := of_f3 rfl rfl rfl rfl rfl rfl rfl
theorem eorAbs (w : Word) : Statement (.eorAbs w) := of_f3 rfl rfl rfl rfl rfl rfl rfl
theorem lsrAbs (w : Word) : Statement (.lsrAbs w) := of_f3 rfl rfl rfl rfl rfl rfl rfl
theorem bvc (b : Byte) : Statement (.bvc b) := of_f2 rfl rfl rfl rfl rfl rfl rfl
theorem eorIzy (b : Byte) : Statement (.eorIzy b) := of_f2 rfl rfl rfl rfl rfl rfl rfl
theorem eorZpx (b : Byte) : Statement (.eorZpx b) := of_f2 rfl rfl rfl rfl rfl rfl rfl
theorem lsrZpx (b : Byte) : Statement (.lsrZpx b) := of_f2 rfl rfl rfl rfl rfl rfl rfl
theorem cli : Statement .cli := of_f1 rfl rfl rfl rfl rfl rfl
theorem eorAby (w : Word) : Statement (.eorAby w) := of_f3 rfl rfl rfl rfl rfl rfl rfl
theorem eorAbx (w : Word) : Statement (.eorAbx w) := of_f3 rfl rfl rfl rfl rfl rfl rfl
theorem lsrAbx (w : Word) : Statement (.lsrAbx w) := of_f3 rfl rfl rfl rfl rfl rfl rfl
theorem rts : Statement .rts := of_f1 rfl rfl rfl rfl rfl rfl
theorem adcIzx (b : Byte) : Statement (.adcIzx b) := of_f2 rfl rfl rfl rfl rfl rfl rfl
theorem adcZp (b : Byte) : Statement (.adcZp b) := of_f2 rfl rfl rfl rfl rfl rfl rfl
theorem rorZp (b : Byte) : Statement (.rorZp b) := of_f2 rfl rfl rfl rfl rfl rfl rfl
theorem pla : Statement .pla := of_f1 rfl rfl rfl rfl rfl rfl
theorem adcImm (b : Byte) : Statement (.adcImm b) := of_f2 rfl rfl rfl rfl rfl rfl rfl
theorem rorAcc : Statement .rorAcc := of_f1 rfl rfl rfl rfl rfl rfl
theorem jmpInd (w : Word) : Statement (.jmpInd w) := of_f3 rfl rfl rfl rfl rfl rfl rfl
theorem adcAbs (w : Word) : Statement (.adcAbs w) := of_f3 rfl rfl rfl rfl rfl rfl rfl
theorem rorAbs (w : Word) : Statement (.rorAbs w) := of_f3 rfl rfl rfl rfl rfl rfl rfl
theorem bvs (b : Byte) : Statement (.bvs b) := of_f2 rfl rfl rfl rfl rfl rfl rfl
theorem adcIzy (b : Byte) : Statement (.adcIzy b) := of_f2 rfl rfl rfl rfl rfl rfl rfl
theorem adcZpx (b : Byte) : Statement (.adcZpx b) := of_f2 rfl rfl rfl rfl rfl rfl rfl
theorem rorZpx (b : Byte) : Statement (.rorZpx b) := of_f2 rfl rfl rfl rfl rfl rfl rfl
theorem sei : Statement .sei := of_f1 rfl rfl rfl rfl rfl rfl
theorem adcAby (w : Word) : Statement (.adcAby w) := of_f3 rfl rfl rfl rfl rfl rfl rfl
theorem adcAbx (w : Word) : Statement (.adcAbx w) := of_f3 rfl rfl rfl rfl rfl rfl rfl
theorem rorAbx (w : Word) : Statement (.rorAbx w) := of_f3 rfl rfl rfl rfl rfl rfl rfl
theorem staIzx (b : Byte) : Statement (.staIzx b) := of_f2 rfl rfl rfl rfl rfl rfl rfl
theorem styZp (b : Byte) : Statement (.styZp b) := of_f2 rfl rfl rfl rfl rfl rfl rfl
theorem staZp (b : Byte) : Statement (.staZp b) := of_f2 rfl rfl rfl rfl rfl rfl rfl
theorem stxZp (b : Byte) : Statement (.stxZp b) := of_f2 rfl rfl rfl rfl rfl rfl rfl
theorem dey : Statement .dey := of_f1 rfl rfl rfl rfl rfl rfl
theorem txa : Statement .txa := of_f1 rfl rfl rfl rfl rfl rfl
theorem styAbs (w : Word) : Statement (.styAbs w) := of_f3 rfl rfl rfl rfl rfl rfl rfl
theorem staAbs (w : Word) : Statement (.staAbs w) := of_f3 rfl rfl rfl rfl rfl rfl rfl
theorem stxAbs (w : Word) : Statement (.stxAbs w) := of_f3 rfl rfl rfl rfl rfl rfl rfl
theorem bcc (b : Byte) : Statement (.bcc b) := of_f2 rfl rfl rfl rfl rfl rfl rfl
theorem staIzy (b : Byte) : Statement (.staIzy b) := of_f2 rfl rfl rfl rfl rfl rfl rfl
theorem styZpx (b : Byte) : Statement (.styZpx b) := of_f2 rfl rfl rfl rfl rfl rfl rfl
theorem staZpx (b : Byte) : Statement (.staZpx b) := of_f2 rfl rfl rfl rfl rfl rfl rfl
theorem stxZpy (b : Byte) : Statement (.stxZpy b) := of_f2 rfl rfl rfl rfl rfl rfl rfl
theorem tya : Statement .tya := of_f1 rfl rfl rfl rfl rfl rfl
theorem staAby (w : Word) : Statement (.staAby w) := of_f3 rfl rfl rfl rfl rfl rfl rfl
theorem txs : Statement .txs := of_f1 rfl rfl rfl rfl rfl rfl
theorem staAbx (w : Word) : Statement (.staAbx w) := of_f3 rfl rfl rfl rfl rfl rfl rfl
theorem ldyImm (b : Byte) : Statement (.ldyImm b) := of_f2 rfl rfl rfl rfl rfl rfl rfl
theorem ldaIzx (b : Byte) : Statement (.ldaIzx b) := of_f2 rfl rfl rfl rfl rfl rfl rfl
theorem ldxImm (b : Byte) : Statement (.ldxImm b) := of_f2 rfl rfl rfl rfl rfl rfl rfl
theorem ldyZp (b : Byte) : Statement (.ldyZp b) := of_f2 rfl rfl rfl rfl rfl rfl rfl
theorem ldaZp (b : Byte) : Statement (.ldaZp b) := of_f2 rfl rfl rfl rfl rfl rfl rfl
theorem ldxZp (b : Byte) : Statement (.ldxZp b) := of_f2 rfl rfl rfl rfl rfl rfl rfl
theorem tay : Statement .tay := of_f1 rfl rfl rfl rfl rfl rfl
theorem ldaImm (b : Byte) : Statement (.ldaImm b) := of_f2 rfl rfl rfl rfl rfl rfl rfl
theorem tax : Statement .tax := of_f1 rfl rfl rfl rfl rfl rfl
theorem ldyAbs (w : Word) : Statement (.ldyAbs w) := of_f3 rfl rfl rfl rfl rfl rfl rfl
theorem ldaAbs (w : Word) : Statement (.ldaAbs w) := of_f3 rfl rfl rfl rfl rfl rfl rfl
theorem ldxAbs (w : Word) : Statement (.ldxAbs w) := of_f3 rfl rfl rfl rfl rfl rfl rfl
theorem bcs (b : Byte) : Statement (.bcs b) := of_f2 rfl rfl rfl rfl rfl rfl rfl
theorem ldaIzy (b : Byte) : Statement (.ldaIzy b) := of_f2 rfl rfl rfl rfl rfl rfl rfl
theorem ldyZpx (b : Byte) : Statement (.ldyZpx b) := of_f2 rfl rfl rfl rfl rfl rfl rfl
theorem ldaZpx (b : Byte) : Statement (.ldaZpx b) := of_f2 rfl rfl rfl rfl rfl rfl rfl
theorem ldxZpy (b : Byte) : Statement (.ldxZpy b) := of_f2 rfl rfl rfl rfl rfl rfl rfl
theorem clv : Statement .clv := of_f1 rfl rfl rfl rfl rfl rfl
theorem ldaAby (w : Word) : Statement (.ldaAby w) := of_f3 rfl rfl rfl rfl rfl rfl rfl
theorem tsx : Statement .tsx := of_f1 rfl rfl rfl rfl rfl rfl
theorem ldyAbx (w : Word) : Statement (.ldyAbx w) := of_f3 rfl rfl rfl rfl rfl rfl rfl
theorem ldaAbx (w : Word) : Statement (.ldaAbx w) := of_f3 rfl rfl rfl rfl rfl rfl rfl
theorem ldxAby (w : Word) : Statement (.ldxAby w) := of_f3 rfl rfl rfl rfl rfl rfl rfl
theorem cpyImm (b : Byte) : Statement (.cpyImm b) := of_f2 rfl rfl rfl rfl rfl rfl rfl
theorem cmpIzx (b : Byte) : Statement (.cmpIzx b) := of_f2 rfl rfl rfl rfl rfl rfl rfl
theorem cpyZp (b : Byte) : Statement (.cpyZp b) := of_f2 rfl rfl rfl rfl rfl rfl rfl
theorem cmpZp (b : Byte) : Statement (.cmpZp b) := of_f2 rfl rfl rfl rfl rfl rfl rfl
theorem decZp (b : Byte) : Statement (.decZp b) := of_f2 rfl rfl rfl rfl rfl rfl rfl
theorem iny : Statement .iny := of_f1 rfl rfl rfl rfl rfl rfl
theorem cmpImm (b : Byte) : Statement (.cmpImm b) := of_f2 rfl rfl rfl rfl rfl rfl rfl
theorem dex : Statement .dex := of_f1 rfl rfl rfl rfl rfl rfl
theorem cpyAbs (w : Word) : Statement (.cpyAbs w) := of_f3 rfl rfl rfl rfl rfl rfl rfl
theorem cmpAbs (w : Word) : Statement (.cmpAbs w) := of_f3 rfl rfl rfl rfl rfl rfl rfl
theorem decAbs (w : Word) : Statement (.decAbs w) := of_f3 rfl rfl rfl rfl rfl rfl rfl
theorem bne (b : Byte) : Statement (.bne b) := of_f2 rfl rfl rfl rfl rfl rfl rfl
theorem cmpIzy (b : Byte) : Statement (.cmpIzy b) := of_f2 rfl rfl rfl rfl rfl rfl rfl
theorem cmpZpx (b : Byte) : Statement (.cmpZpx b) := of_f2 rfl rfl rfl rfl rfl rfl rfl
theorem decZpx (b : Byte) : Statement (.decZpx b) := of_f2 rfl rfl rfl rfl rfl rfl rfl
theorem cld : Statement .cld := of_f1 rfl rfl rfl rfl rfl rfl
theorem cmpAby (w : Word) : Statement (.cmpAby w) := of_f3 rfl rfl rfl rfl rfl rfl rfl
theorem cmpAbx (w : Word) : Statement (.cmpAbx w) := of_f3 rfl rfl rfl rfl rfl rfl rfl
theorem decAbx (w : Word) : Statement (.decAbx w) := of_f3 rfl rfl rfl rfl rfl rfl rfl
theorem cpxImm (b : Byte) : Statement (.cpxImm b) := of_f2 rfl rfl rfl rfl rfl rfl rfl
theorem sbcIzx (b : Byte) : Statement (.sbcIzx b) := of_f2 rfl rfl rfl rfl rfl rfl rfl
theorem cpxZp (b : Byte) : Statement (.cpxZp b) := of_f2 rfl rfl rfl rfl rfl rfl rfl
theorem sbcZp (b : Byte) : Statement (.sbcZp b) := of_f2 rfl rfl rfl rfl rfl rfl rfl
theorem incZp (b : Byte) : Statement (.incZp b) := of_f2 rfl rfl rfl rfl rfl rfl rfl
theorem inx : Statement .inx := of_f1 rfl rfl rfl rfl rfl rfl
theorem sbcImm (b : Byte) : Statement (.sbcImm b) := of_f2 rfl rfl rfl rfl rfl rfl rfl
theorem nop : Statement .nop := of_f1 rfl rfl rfl rfl rfl rfl
theorem cpxAbs (w : Word) : Statement (.cpxAbs w) := of_f3 rfl rfl rfl rfl rfl rfl rfl
theorem sbcAbs (w : Word) : Statement (.sbcAbs w) := of_f3 rfl rfl rfl rfl rfl rfl rfl
theorem incAbs (w : Word) : Statement (.incAbs w) := of_f3 rfl rfl rfl rfl rfl rfl rfl
theorem beq (b : Byte) : Statement (.beq b) := of_f2 rfl rfl rfl rfl rfl rfl rfl
theorem sbcIzy (b : Byte) : Statement (.sbcIzy b) := of_f2 rfl rfl rfl rfl rfl rfl rfl
theorem sbcZpx (b : Byte) : Statement (.sbcZpx b) := of_f2 rfl rfl rfl rfl rfl rfl rfl
theorem incZpx (b : Byte) : Statement (.incZpx b) := of_f2 rfl rfl rfl rfl rfl rfl rfl
theorem sed : Statement .sed := of_f1 rfl rfl rfl rfl rfl rfl
theorem sbcAby (w : Word) : Statement (.sbcAby w) := of_f3 rfl rfl rfl rfl rfl rfl rfl
theorem sbcAbx (w : Word) : Statement (.sbcAbx w) := of_f3 rfl rfl rfl rfl rfl rfl rfl
theorem incAbx (w : Word) : Statement (.incAbx w) := of_f3 rfl rfl rfl rfl rfl rfl rfl

end Sys2Proof.Laws.CodeForm
end

