-- ==== Sys2Proof/Laws/Step.lean ====
section
/-! SUPPORT. The three cases of a step (40_step_and_addressing.md R100 to R103), each named once, for any execute phase, for the
default cycle table and for any table. -/

namespace Sys2Proof.Machine

section cases
variable {ex : Instr → State → Result} {table : BaseCycles} {s : State} {i : Instr} {r : StopReason}

theorem stepBy_stopped (h : s.run = .stopped r) : stepBy ex s = .next s := by simp [stepBy, h]

theorem stepBy_undecoded (h : s.run = .running) (hf : fetchInstr s = none) : stepBy ex s = .next (haltIllegal s) := by
  simp [stepBy, h, hf]

theorem stepBy_decoded (h : s.run = .running) (hf : fetchInstr s = some i) : stepBy ex s = ex i (advancePc i s) := by
  simp [stepBy, h, hf]

theorem step_stopped (h : s.run = .stopped r) : step s = .next s := stepBy_stopped h

theorem step_undecoded (h : s.run = .running) (hf : fetchInstr s = none) : step s = .next (haltIllegal s) := stepBy_undecoded h hf

theorem step_decoded (h : s.run = .running) (hf : fetchInstr s = some i) : step s = exec i (advancePc i s) := stepBy_decoded h hf

theorem stepWith_stopped (h : s.run = .stopped r) : stepWith table s = .next s := stepBy_stopped h

theorem stepWith_undecoded (h : s.run = .running) (hf : fetchInstr s = none) : stepWith table s = .next (haltIllegal s) :=
  stepBy_undecoded h hf

theorem stepWith_decoded (h : s.run = .running) (hf : fetchInstr s = some i) :
    stepWith table s = execWith table i (advancePc i s) := stepBy_decoded h hf

end cases

end Sys2Proof.Machine
end

