-- ==== Sys2Proof/Tests/Slice0.lean ====
section
/-! SUPPORT. Tests. Expected results are the spec's: the rows of 30_encoding.md R75 written out as bytes, and the vectors of
95_test_vectors.md, whose ids the names carry. The witnesses at the end meet the hypotheses of the obligations. -/

namespace Sys2Proof.Tests

open Sys2Proof Sys2Proof.Machine Sys2Proof.Claims

/-! ### Well-formed code -/

theorem test_wf_accepts : wellFormedCode [0xA9, 0x2A] = true ∧ wellFormedCode [0xEA] = true ∧
    wellFormedCode [0x6C, 0xFF, 0x12] = true := by decide

theorem test_wf_refuses_empty : wellFormedCode [] = false := by decide

theorem test_wf_refuses_illegal_opcode : wellFormedCode [0x02] = false ∧ wellFormedCode [0x80, 0x00] = false := by decide

theorem test_wf_refuses_missing_operand : wellFormedCode [0xA9] = false ∧ wellFormedCode [0xAD, 0x34] = false := by decide

theorem test_wf_refuses_extra_operand : wellFormedCode [0xEA, 0x00] = false ∧ wellFormedCode [0xA9, 0x2A, 0x00] = false := by
  decide

/-- Every number is less than the next, so no two are equal. -/
def rising (l : List Nat) : Bool := (l.zip l.tail).all fun c => decide (c.1 < c.2)

theorem test_illegal_list : illegalOpcodes.length = 105 ∧ rising illegalOpcodes = true := by decide

theorem test_table_has_151_rows : ((List.range 16).map fun h => (opcodeRows h).length).sum = 151 := by decide

/-- No byte has two rows: the rows of a part stand in rising order, each in the part of its high digit. -/
theorem test_table_rows_distinct : (List.range 16).all (fun h =>
    rising ((opcodeRows h).map (·.code.toNat)) && (opcodeRows h).all fun r => r.code.toNat / 16 == h) = true := by decide

/-! ### Decoding: every row of 30_encoding.md R75, the operand bytes 5A, or 34 12 -/

/-- Each list of bytes decodes to its instruction and leaves nothing. -/
def decodesTo (cases : List (List Byte × Instr)) : Bool := cases.all fun c => decide (decode c.1 = .ok c.2 [])

theorem test_decode_0x : decodesTo [
    ([0x00], .brk), ([0x01, 0x5A], .oraIzx 0x5A), ([0x05, 0x5A], .oraZp 0x5A),
    ([0x06, 0x5A], .aslZp 0x5A), ([0x08], .php), ([0x09, 0x5A], .oraImm 0x5A),
    ([0x0A], .aslAcc), ([0x0D, 0x34, 0x12], .oraAbs 0x1234), ([0x0E, 0x34, 0x12], .aslAbs 0x1234)] = true := by decide

theorem test_decode_1x : decodesTo [
    ([0x10, 0x5A], .bpl 0x5A), ([0x11, 0x5A], .oraIzy 0x5A), ([0x15, 0x5A], .oraZpx 0x5A),
    ([0x16, 0x5A], .aslZpx 0x5A), ([0x18], .clc), ([0x19, 0x34, 0x12], .oraAby 0x1234),
    ([0x1D, 0x34, 0x12], .oraAbx 0x1234), ([0x1E, 0x34, 0x12], .aslAbx 0x1234)] = true := by decide

theorem test_decode_2x : decodesTo [
    ([0x20, 0x34, 0x12], .jsr 0x1234), ([0x21, 0x5A], .andIzx 0x5A), ([0x24, 0x5A], .bitZp 0x5A),
    ([0x25, 0x5A], .andZp 0x5A), ([0x26, 0x5A], .rolZp 0x5A), ([0x28], .plp),
    ([0x29, 0x5A], .andImm 0x5A), ([0x2A], .rolAcc), ([0x2C, 0x34, 0x12], .bitAbs 0x1234),
    ([0x2D, 0x34, 0x12], .andAbs 0x1234), ([0x2E, 0x34, 0x12], .rolAbs 0x1234)] = true := by decide

theorem test_decode_3x : decodesTo [
    ([0x30, 0x5A], .bmi 0x5A), ([0x31, 0x5A], .andIzy 0x5A), ([0x35, 0x5A], .andZpx 0x5A),
    ([0x36, 0x5A], .rolZpx 0x5A), ([0x38], .sec), ([0x39, 0x34, 0x12], .andAby 0x1234),
    ([0x3D, 0x34, 0x12], .andAbx 0x1234), ([0x3E, 0x34, 0x12], .rolAbx 0x1234)] = true := by decide

theorem test_decode_4x : decodesTo [
    ([0x40], .rti), ([0x41, 0x5A], .eorIzx 0x5A), ([0x45, 0x5A], .eorZp 0x5A),
    ([0x46, 0x5A], .lsrZp 0x5A), ([0x48], .pha), ([0x49, 0x5A], .eorImm 0x5A),
    ([0x4A], .lsrAcc), ([0x4C, 0x34, 0x12], .jmpAbs 0x1234), ([0x4D, 0x34, 0x12], .eorAbs 0x1234),
    ([0x4E, 0x34, 0x12], .lsrAbs 0x1234)] = true := by decide

theorem test_decode_5x : decodesTo [
    ([0x50, 0x5A], .bvc 0x5A), ([0x51, 0x5A], .eorIzy 0x5A), ([0x55, 0x5A], .eorZpx 0x5A),
    ([0x56, 0x5A], .lsrZpx 0x5A), ([0x58], .cli), ([0x59, 0x34, 0x12], .eorAby 0x1234),
    ([0x5D, 0x34, 0x12], .eorAbx 0x1234), ([0x5E, 0x34, 0x12], .lsrAbx 0x1234)] = true := by decide

theorem test_decode_6x : decodesTo [
    ([0x60], .rts), ([0x61, 0x5A], .adcIzx 0x5A), ([0x65, 0x5A], .adcZp 0x5A),
    ([0x66, 0x5A], .rorZp 0x5A), ([0x68], .pla), ([0x69, 0x5A], .adcImm 0x5A),
    ([0x6A], .rorAcc), ([0x6C, 0x34, 0x12], .jmpInd 0x1234), ([0x6D, 0x34, 0x12], .adcAbs 0x1234),
    ([0x6E, 0x34, 0x12], .rorAbs 0x1234)] = true := by decide

theorem test_decode_7x : decodesTo [
    ([0x70, 0x5A], .bvs 0x5A), ([0x71, 0x5A], .adcIzy 0x5A), ([0x75, 0x5A], .adcZpx 0x5A),
    ([0x76, 0x5A], .rorZpx 0x5A), ([0x78], .sei), ([0x79, 0x34, 0x12], .adcAby 0x1234),
    ([0x7D, 0x34, 0x12], .adcAbx 0x1234), ([0x7E, 0x34, 0x12], .rorAbx 0x1234)] = true := by decide

theorem test_decode_8x : decodesTo [
    ([0x81, 0x5A], .staIzx 0x5A), ([0x84, 0x5A], .styZp 0x5A), ([0x85, 0x5A], .staZp 0x5A),
    ([0x86, 0x5A], .stxZp 0x5A), ([0x88], .dey), ([0x8A], .txa),
    ([0x8C, 0x34, 0x12], .styAbs 0x1234), ([0x8D, 0x34, 0x12], .staAbs 0x1234), ([0x8E, 0x34, 0x12], .stxAbs 0x1234)] = true := by decide

theorem test_decode_9x : decodesTo [
    ([0x90, 0x5A], .bcc 0x5A), ([0x91, 0x5A], .staIzy 0x5A), ([0x94, 0x5A], .styZpx 0x5A),
    ([0x95, 0x5A], .staZpx 0x5A), ([0x96, 0x5A], .stxZpy 0x5A), ([0x98], .tya),
    ([0x99, 0x34, 0x12], .staAby 0x1234), ([0x9A], .txs), ([0x9D, 0x34, 0x12], .staAbx 0x1234)] = true := by decide

theorem test_decode_Ax : decodesTo [
    ([0xA0, 0x5A], .ldyImm 0x5A), ([0xA1, 0x5A], .ldaIzx 0x5A), ([0xA2, 0x5A], .ldxImm 0x5A),
    ([0xA4, 0x5A], .ldyZp 0x5A), ([0xA5, 0x5A], .ldaZp 0x5A), ([0xA6, 0x5A], .ldxZp 0x5A),
    ([0xA8], .tay), ([0xA9, 0x5A], .ldaImm 0x5A), ([0xAA], .tax),
    ([0xAC, 0x34, 0x12], .ldyAbs 0x1234), ([0xAD, 0x34, 0x12], .ldaAbs 0x1234), ([0xAE, 0x34, 0x12], .ldxAbs 0x1234)] = true := by decide

theorem test_decode_Bx : decodesTo [
    ([0xB0, 0x5A], .bcs 0x5A), ([0xB1, 0x5A], .ldaIzy 0x5A), ([0xB4, 0x5A], .ldyZpx 0x5A),
    ([0xB5, 0x5A], .ldaZpx 0x5A), ([0xB6, 0x5A], .ldxZpy 0x5A), ([0xB8], .clv),
    ([0xB9, 0x34, 0x12], .ldaAby 0x1234), ([0xBA], .tsx), ([0xBC, 0x34, 0x12], .ldyAbx 0x1234),
    ([0xBD, 0x34, 0x12], .ldaAbx 0x1234), ([0xBE, 0x34, 0x12], .ldxAby 0x1234)] = true := by decide

theorem test_decode_Cx : decodesTo [
    ([0xC0, 0x5A], .cpyImm 0x5A), ([0xC1, 0x5A], .cmpIzx 0x5A), ([0xC4, 0x5A], .cpyZp 0x5A),
    ([0xC5, 0x5A], .cmpZp 0x5A), ([0xC6, 0x5A], .decZp 0x5A), ([0xC8], .iny),
    ([0xC9, 0x5A], .cmpImm 0x5A), ([0xCA], .dex), ([0xCC, 0x34, 0x12], .cpyAbs 0x1234),
    ([0xCD, 0x34, 0x12], .cmpAbs 0x1234), ([0xCE, 0x34, 0x12], .decAbs 0x1234)] = true := by decide

theorem test_decode_Dx : decodesTo [
    ([0xD0, 0x5A], .bne 0x5A), ([0xD1, 0x5A], .cmpIzy 0x5A), ([0xD5, 0x5A], .cmpZpx 0x5A),
    ([0xD6, 0x5A], .decZpx 0x5A), ([0xD8], .cld), ([0xD9, 0x34, 0x12], .cmpAby 0x1234),
    ([0xDD, 0x34, 0x12], .cmpAbx 0x1234), ([0xDE, 0x34, 0x12], .decAbx 0x1234)] = true := by decide

theorem test_decode_Ex : decodesTo [
    ([0xE0, 0x5A], .cpxImm 0x5A), ([0xE1, 0x5A], .sbcIzx 0x5A), ([0xE4, 0x5A], .cpxZp 0x5A),
    ([0xE5, 0x5A], .sbcZp 0x5A), ([0xE6, 0x5A], .incZp 0x5A), ([0xE8], .inx),
    ([0xE9, 0x5A], .sbcImm 0x5A), ([0xEA], .nop), ([0xEC, 0x34, 0x12], .cpxAbs 0x1234),
    ([0xED, 0x34, 0x12], .sbcAbs 0x1234), ([0xEE, 0x34, 0x12], .incAbs 0x1234)] = true := by decide

theorem test_decode_Fx : decodesTo [
    ([0xF0, 0x5A], .beq 0x5A), ([0xF1, 0x5A], .sbcIzy 0x5A), ([0xF5, 0x5A], .sbcZpx 0x5A),
    ([0xF6, 0x5A], .incZpx 0x5A), ([0xF8], .sed), ([0xF9, 0x34, 0x12], .sbcAby 0x1234),
    ([0xFD, 0x34, 0x12], .sbcAbx 0x1234), ([0xFE, 0x34, 0x12], .incAbx 0x1234)] = true := by decide

/-! One word of each family, bit by bit. -/

theorem test_bits_load : decode [0b10101001, 0b00101010] = .ok (.ldaImm 0x2A) [] := by decide

theorem test_bits_logic : decode [0b00111101, 0b11111111, 0b00010010] = .ok (.andAbx 0x12FF) [] := by decide

theorem test_bits_transfer : decode [0b10101010] = .ok (.tax) [] := by decide

theorem test_bits_store : decode [0b10010110, 0b11110000] = .ok (.stxZpy 0xF0) [] := by decide

theorem test_bits_arithmetic : decode [0b01110001, 0b01000000] = .ok (.adcIzy 0x40) [] := by decide

theorem test_bits_compare : decode [0b11000001, 0b00100000] = .ok (.cmpIzx 0x20) [] := by decide

theorem test_bits_incDec : decode [0b11101110, 0b00000000, 0b00000010] = .ok (.incAbs 0x0200) [] := by decide

theorem test_bits_shift : decode [0b00001010] = .ok (.aslAcc) [] := by decide

theorem test_bits_bitTest : decode [0b00100100, 0b00010000] = .ok (.bitZp 0x10) [] := by decide

theorem test_bits_branch : decode [0b11010000, 0b11111001] = .ok (.bne 0xF9) [] := by decide

theorem test_bits_jump : decode [0b01101100, 0b11111111, 0b00010010] = .ok (.jmpInd 0x12FF) [] := by decide

theorem test_bits_stack : decode [0b01001000] = .ok (.pha) [] := by decide

theorem test_bits_break : decode [0b00000000] = .ok (.brk) [] := by decide

theorem test_bits_flagOps : decode [0b00111000] = .ok (.sec) [] := by decide

theorem test_table_word : decodeTableWord 16 0x2AA9 = some (.ldaImm 0x2A) ∧ decodeTableWord 8 0xEA = some .nop ∧
    decodeTableWord 8 0xAD = some (.ldaAbs 0) ∧ decodeTableWord 8 0x02 = none := by decide

theorem test_encode_low_byte_first : encode (.jmpAbs 0x1234) = [0x4C, 0x34, 0x12] := by decide

/-! ### One step: vectors of 95_test_vectors.md -/

/-- A running core with these registers and bytes, the counters 0. -/
def core (a x y sp p : Byte) (pc : Word) (cells : List (Word × Byte)) : State :=
  cells.foldl (fun s c => s.writeByte c.1 c.2)
    { State.reset with a := a, x := x, y := y, sp := sp, p := p, pc := pc, run := .running }

/-- What a step left: A, X, Y, SP, P, PC, CYC, INS, then the bytes at the addresses listed. -/
def seen (addrs : List Word) (r : Result) : Option (List Nat) :=
  match r with
  | .next t => some ([t.a.toNat, t.x.toNat, t.y.toNat, t.sp.toNat, t.p.toNat, t.pc.toNat, t.cyc.toNat, t.ins.toNat] ++
      addrs.map fun k => (t.readByte k).toNat)
  | .fault _ | .refused _ => none

theorem test_V41_01_ldaImm :
    seen [] (step (core 0x55 0x00 0x00 0xFF 0x00 0x0600 [(0x0600, 0xA9), (0x0601, 0x00)])) =
      some [0x00, 0x00, 0x00, 0xFF, 0x02, 0x0602, 2, 1] := by decide

theorem test_V41_04_ldaZpx :
    seen [] (step (core 0x00 0xFF 0x00 0xFF 0x00 0x0600 [(0x007F, 0x11), (0x017F, 0x22), (0x0600, 0xB5), (0x0601, 0x80)])) =
      some [0x11, 0xFF, 0x00, 0xFF, 0x00, 0x0602, 4, 1] := by decide

theorem test_V41_05_ldaAbs :
    seen [] (step (core 0x00 0x00 0x00 0xFF 0x00 0x0600 [(0x1234, 0xC3), (0x0600, 0xAD), (0x0601, 0x34), (0x0602, 0x12)])) =
      some [0xC3, 0x00, 0x00, 0xFF, 0x80, 0x0603, 4, 1] := by decide

theorem test_V41_07_ldaAbx :
    seen [] (step (core 0x00 0x10 0x00 0xFF 0x00 0x0600 [(0x1300, 0x02), (0x0600, 0xBD), (0x0601, 0xF0), (0x0602, 0x12)])) =
      some [0x02, 0x10, 0x00, 0xFF, 0x00, 0x0603, 5, 1] := by decide

theorem test_V41_08_ldaAby :
    seen [] (step (core 0x00 0x00 0x01 0xFF 0x00 0x0600 [(0x0000, 0x99), (0x0600, 0xB9), (0x0601, 0xFF), (0x0602, 0xFF)])) =
      some [0x99, 0x00, 0x01, 0xFF, 0x80, 0x0603, 5, 1] := by decide

theorem test_V41_10_ldaIzx :
    seen [] (step (core 0x00 0x20 0x00 0xFF 0x00 0x0600 [(0x0010, 0x34), (0x0011, 0x12), (0x1234, 0x77), (0x0600, 0xA1), (0x0601, 0xF0)])) =
      some [0x77, 0x20, 0x00, 0xFF, 0x00, 0x0602, 6, 1] := by decide

theorem test_V41_11_ldaIzy :
    seen [] (step (core 0x00 0x00 0x10 0xFF 0x00 0x0600 [(0x0040, 0x00), (0x0041, 0x20), (0x2010, 0x81), (0x0600, 0xB1), (0x0601, 0x40)])) =
      some [0x81, 0x00, 0x10, 0xFF, 0x80, 0x0602, 5, 1] := by decide

theorem test_V41_12_ldaIzy :
    seen [] (step (core 0x00 0x00 0x10 0xFF 0x00 0x0600 [(0x0040, 0xF8), (0x0041, 0x20), (0x2108, 0x00), (0x0600, 0xB1), (0x0601, 0x40)])) =
      some [0x00, 0x00, 0x10, 0xFF, 0x02, 0x0602, 6, 1] := by decide

theorem test_V41_15_ldxZpy :
    seen [] (step (core 0x00 0x00 0xF8 0xFF 0x00 0x0600 [(0x0008, 0x00), (0x0600, 0xB6), (0x0601, 0x10)])) =
      some [0x00, 0x00, 0xF8, 0xFF, 0x02, 0x0602, 4, 1] := by decide

theorem test_V41_16_ldxAby :
    seen [] (step (core 0x00 0x00 0x01 0xFF 0x00 0x0600 [(0x2100, 0xFE), (0x0600, 0xBE), (0x0601, 0xFF), (0x0602, 0x20)])) =
      some [0x00, 0xFE, 0x01, 0xFF, 0x80, 0x0603, 5, 1] := by decide

theorem test_V41_17_ldyAbx :
    seen [] (step (core 0x00 0xFF 0x00 0xFF 0x00 0x0600 [(0x20FF, 0x01), (0x0600, 0xBC), (0x0601, 0x00), (0x0602, 0x20)])) =
      some [0x00, 0xFF, 0x01, 0xFF, 0x00, 0x0603, 4, 1] := by decide

theorem test_V41_18_andZp :
    seen [] (step (core 0xFF 0x00 0x00 0xFF 0x00 0x0600 [(0x0010, 0x00), (0x0600, 0x25), (0x0601, 0x10)])) =
      some [0x00, 0x00, 0x00, 0xFF, 0x02, 0x0602, 3, 1] := by decide

theorem test_V41_19_oraImm :
    seen [] (step (core 0x00 0x00 0x00 0xFF 0x80 0x0600 [(0x0600, 0x09), (0x0601, 0x00)])) =
      some [0x00, 0x00, 0x00, 0xFF, 0x02, 0x0602, 2, 1] := by decide

theorem test_V41_20_eorImm :
    seen [] (step (core 0xFF 0x00 0x00 0xFF 0x00 0x0600 [(0x0600, 0x49), (0x0601, 0xFF)])) =
      some [0x00, 0x00, 0x00, 0xFF, 0x02, 0x0602, 2, 1] := by decide

theorem test_V41_21_eorIzy :
    seen [] (step (core 0x0F 0x00 0xFF 0xFF 0x00 0x0600 [(0x0010, 0x01), (0x0011, 0x30), (0x3100, 0xF0), (0x0600, 0x51), (0x0601, 0x10)])) =
      some [0xFF, 0x00, 0xFF, 0xFF, 0x80, 0x0602, 6, 1] := by decide

theorem test_V41_22_tax :
    seen [] (step (core 0x00 0x33 0x00 0xFF 0x00 0x0600 [(0x0600, 0xAA)])) =
      some [0x00, 0x00, 0x00, 0xFF, 0x02, 0x0601, 2, 1] := by decide

theorem test_V41_23_tay :
    seen [] (step (core 0x90 0x00 0x00 0xFF 0x00 0x0600 [(0x0600, 0xA8)])) =
      some [0x90, 0x00, 0x90, 0xFF, 0x80, 0x0601, 2, 1] := by decide

theorem test_V41_24_txa :
    seen [] (step (core 0xFF 0x01 0x00 0xFF 0x82 0x0600 [(0x0600, 0x8A)])) =
      some [0x01, 0x01, 0x00, 0xFF, 0x00, 0x0601, 2, 1] := by decide

theorem test_V41_25_tya :
    seen [] (step (core 0x12 0x00 0x00 0xFF 0x00 0x0600 [(0x0600, 0x98)])) =
      some [0x00, 0x00, 0x00, 0xFF, 0x02, 0x0601, 2, 1] := by decide

theorem test_V41_26_tsx :
    seen [] (step (core 0x00 0x44 0x00 0x00 0x00 0x0600 [(0x0600, 0xBA)])) =
      some [0x00, 0x00, 0x00, 0x00, 0x02, 0x0601, 2, 1] := by decide

theorem test_V41_27_txs :
    seen [] (step (core 0x00 0x00 0x00 0xFF 0x00 0x0600 [(0x0600, 0x9A)])) =
      some [0x00, 0x00, 0x00, 0x00, 0x02, 0x0601, 2, 1] := by decide

theorem test_V41_28_txs :
    seen [] (step (core 0x00 0xFD 0x00 0x00 0x00 0x0600 [(0x0600, 0x9A)])) =
      some [0x00, 0xFD, 0x00, 0xFD, 0x80, 0x0601, 2, 1] := by decide

theorem test_V41_30_staZpx :
    seen [0x007F] (step (core 0xAB 0xFF 0x00 0xFF 0x00 0x0600 [(0x0600, 0x95), (0x0601, 0x80)])) =
      some [0xAB, 0xFF, 0x00, 0xFF, 0x00, 0x0602, 4, 1, 0xAB] := by decide

theorem test_V41_31_staAbx :
    seen [0x1300] (step (core 0x42 0x01 0x00 0xFF 0x00 0x0600 [(0x0600, 0x9D), (0x0601, 0xFF), (0x0602, 0x12)])) =
      some [0x42, 0x01, 0x00, 0xFF, 0x00, 0x0603, 5, 1, 0x42] := by decide

theorem test_V41_33_staIzx :
    seen [0x0200] (step (core 0x66 0xE0 0x00 0xFF 0x00 0x0600 [(0x0000, 0x00), (0x0001, 0x02), (0x0600, 0x81), (0x0601, 0x20)])) =
      some [0x66, 0xE0, 0x00, 0xFF, 0x00, 0x0602, 6, 1, 0x66] := by decide

theorem test_V41_34_staIzy :
    seen [0x0300] (step (core 0x66 0x00 0x80 0xFF 0x00 0x0600 [(0x0020, 0x80), (0x0021, 0x02), (0x0600, 0x91), (0x0601, 0x20)])) =
      some [0x66, 0x00, 0x80, 0xFF, 0x00, 0x0602, 6, 1, 0x66] := by decide

theorem test_V41_35_stxZpy :
    seen [0x0010] (step (core 0x00 0x77 0x20 0xFF 0x00 0x0600 [(0x0600, 0x96), (0x0601, 0xF0)])) =
      some [0x00, 0x77, 0x20, 0xFF, 0x00, 0x0602, 4, 1, 0x77] := by decide

theorem test_V41_36_styAbs :
    seen [0x0200] (step (core 0x00 0x00 0x99 0xFF 0x00 0x0600 [(0x0600, 0x8C), (0x0601, 0x00), (0x0602, 0x02)])) =
      some [0x00, 0x00, 0x99, 0xFF, 0x00, 0x0603, 4, 1, 0x99] := by decide

theorem test_V41_37_staAbs :
    seen [0x0601] (step (core 0x55 0x00 0x00 0xFF 0x00 0x0600 [(0x0600, 0x8D), (0x0601, 0x01), (0x0602, 0x06)])) =
      some [0x55, 0x00, 0x00, 0xFF, 0x00, 0x0603, 4, 1, 0x55] := by decide

theorem test_V42_04_adcImm :
    seen [] (step (core 0x7F 0x00 0x00 0xFF 0x00 0x0600 [(0x0600, 0x69), (0x0601, 0x01)])) =
      some [0x80, 0x00, 0x00, 0xFF, 0xC0, 0x0602, 2, 1] := by decide

theorem test_V42_05_adcImm :
    seen [] (step (core 0x80 0x00 0x00 0xFF 0x00 0x0600 [(0x0600, 0x69), (0x0601, 0x80)])) =
      some [0x00, 0x00, 0x00, 0xFF, 0x43, 0x0602, 2, 1] := by decide

theorem test_V42_10_adcAbx :
    seen [] (step (core 0x10 0xCC 0x00 0xFF 0x00 0x0600 [(0x1300, 0x20), (0x0600, 0x7D), (0x0601, 0x34), (0x0602, 0x12)])) =
      some [0x30, 0xCC, 0x00, 0xFF, 0x00, 0x0603, 5, 1] := by decide

theorem test_V42_12_sbcImm :
    seen [] (step (core 0x03 0x00 0x00 0xFF 0x00 0x0600 [(0x0600, 0xE9), (0x0601, 0x01)])) =
      some [0x01, 0x00, 0x00, 0xFF, 0x01, 0x0602, 2, 1] := by decide

theorem test_V42_14_sbcImm :
    seen [] (step (core 0x80 0x00 0x00 0xFF 0x01 0x0600 [(0x0600, 0xE9), (0x0601, 0x01)])) =
      some [0x7F, 0x00, 0x00, 0xFF, 0x41, 0x0602, 2, 1] := by decide

theorem test_V42_19_sbcIzy :
    seen [] (step (core 0x10 0x00 0x01 0xFF 0x01 0x0600 [(0x0010, 0xFF), (0x0011, 0x02), (0x0300, 0x10), (0x0600, 0xF1), (0x0601, 0x10)])) =
      some [0x00, 0x00, 0x01, 0xFF, 0x03, 0x0602, 6, 1] := by decide

theorem test_V42_20_cmpImm :
    seen [] (step (core 0xFF 0x00 0x00 0xFF 0x00 0x0600 [(0x0600, 0xC9), (0x0601, 0x01)])) =
      some [0xFF, 0x00, 0x00, 0xFF, 0x81, 0x0602, 2, 1] := by decide

theorem test_V42_24_cmpImm :
    seen [] (step (core 0x80 0x00 0x00 0xFF 0x40 0x0600 [(0x0600, 0xC9), (0x0601, 0x00)])) =
      some [0x80, 0x00, 0x00, 0xFF, 0xC1, 0x0602, 2, 1] := by decide

theorem test_V42_25_cmpAby :
    seen [] (step (core 0x05 0x00 0x00 0xFF 0x00 0x0600 [(0x2000, 0x05), (0x0600, 0xD9), (0x0601, 0x00), (0x0602, 0x20)])) =
      some [0x05, 0x00, 0x00, 0xFF, 0x03, 0x0603, 4, 1] := by decide

theorem test_V42_26_cpxZp :
    seen [] (step (core 0x00 0x01 0x00 0xFF 0x00 0x0600 [(0x0010, 0x02), (0x0600, 0xE4), (0x0601, 0x10)])) =
      some [0x00, 0x01, 0x00, 0xFF, 0x80, 0x0602, 3, 1] := by decide

theorem test_V42_27_cpxImm :
    seen [] (step (core 0x00 0x05 0x00 0xFF 0x00 0x0600 [(0x0600, 0xE0), (0x0601, 0x05)])) =
      some [0x00, 0x05, 0x00, 0xFF, 0x03, 0x0602, 2, 1] := by decide

theorem test_V42_28_cpyImm :
    seen [] (step (core 0x00 0x00 0x10 0xFF 0x00 0x0600 [(0x0600, 0xC0), (0x0601, 0x20)])) =
      some [0x00, 0x00, 0x10, 0xFF, 0x80, 0x0602, 2, 1] := by decide

theorem test_V43_01_incZp :
    seen [0x0010] (step (core 0x00 0x00 0x00 0xFF 0x01 0x0600 [(0x0010, 0xFF), (0x0600, 0xE6), (0x0601, 0x10)])) =
      some [0x00, 0x00, 0x00, 0xFF, 0x03, 0x0602, 5, 1, 0x00] := by decide

theorem test_V43_02_incZpx :
    seen [0x0011] (step (core 0x00 0x01 0x00 0xFF 0x00 0x0600 [(0x0011, 0x7F), (0x0600, 0xF6), (0x0601, 0x10)])) =
      some [0x00, 0x01, 0x00, 0xFF, 0x80, 0x0602, 6, 1, 0x80] := by decide

theorem test_V43_03_incAbx :
    seen [0x1300] (step (core 0x00 0x01 0x00 0xFF 0x00 0x0600 [(0x1300, 0x00), (0x0600, 0xFE), (0x0601, 0xFF), (0x0602, 0x12)])) =
      some [0x00, 0x01, 0x00, 0xFF, 0x00, 0x0603, 7, 1, 0x01] := by decide

theorem test_V43_05_decZp :
    seen [0x0010] (step (core 0x00 0x00 0x00 0xFF 0x00 0x0600 [(0x0010, 0x00), (0x0600, 0xC6), (0x0601, 0x10)])) =
      some [0x00, 0x00, 0x00, 0xFF, 0x80, 0x0602, 5, 1, 0xFF] := by decide

theorem test_V43_06_decAbs :
    seen [0x0200] (step (core 0x00 0x00 0x00 0xFF 0x00 0x0600 [(0x0200, 0x01), (0x0600, 0xCE), (0x0601, 0x00), (0x0602, 0x02)])) =
      some [0x00, 0x00, 0x00, 0xFF, 0x02, 0x0603, 6, 1, 0x00] := by decide

theorem test_V43_07_decAbx :
    seen [0x0210] (step (core 0x00 0x10 0x00 0xFF 0x00 0x0600 [(0x0210, 0x80), (0x0600, 0xDE), (0x0601, 0x00), (0x0602, 0x02)])) =
      some [0x00, 0x10, 0x00, 0xFF, 0x00, 0x0603, 7, 1, 0x7F] := by decide

theorem test_V43_08_inx :
    seen [] (step (core 0x00 0xFF 0x00 0xFF 0x00 0x0600 [(0x0600, 0xE8)])) =
      some [0x00, 0x00, 0x00, 0xFF, 0x02, 0x0601, 2, 1] := by decide

theorem test_V43_09_iny :
    seen [] (step (core 0x00 0x00 0x7F 0xFF 0x00 0x0600 [(0x0600, 0xC8)])) =
      some [0x00, 0x00, 0x80, 0xFF, 0x80, 0x0601, 2, 1] := by decide

theorem test_V43_10_dex :
    seen [] (step (core 0x00 0x00 0x00 0xFF 0x00 0x0600 [(0x0600, 0xCA)])) =
      some [0x00, 0xFF, 0x00, 0xFF, 0x80, 0x0601, 2, 1] := by decide

theorem test_V43_11_dey :
    seen [] (step (core 0x00 0x00 0x01 0xFF 0x00 0x0600 [(0x0600, 0x88)])) =
      some [0x00, 0x00, 0x00, 0xFF, 0x02, 0x0601, 2, 1] := by decide

theorem test_V43_12_aslAcc :
    seen [] (step (core 0x80 0x00 0x00 0xFF 0x00 0x0600 [(0x0600, 0x0A)])) =
      some [0x00, 0x00, 0x00, 0xFF, 0x03, 0x0601, 2, 1] := by decide

theorem test_V43_13_aslAcc :
    seen [] (step (core 0x40 0x00 0x00 0xFF 0x01 0x0600 [(0x0600, 0x0A)])) =
      some [0x80, 0x00, 0x00, 0xFF, 0x80, 0x0601, 2, 1] := by decide

theorem test_V43_14_aslZp :
    seen [0x0010] (step (core 0x33 0x00 0x00 0xFF 0x00 0x0600 [(0x0010, 0xC1), (0x0600, 0x06), (0x0601, 0x10)])) =
      some [0x33, 0x00, 0x00, 0xFF, 0x81, 0x0602, 5, 1, 0x82] := by decide

theorem test_V43_15_aslAbx :
    seen [0x1300] (step (core 0x00 0x80 0x00 0xFF 0x00 0x0600 [(0x1300, 0x01), (0x0600, 0x1E), (0x0601, 0x80), (0x0602, 0x12)])) =
      some [0x00, 0x80, 0x00, 0xFF, 0x00, 0x0603, 7, 1, 0x02] := by decide

theorem test_V43_16_lsrAcc :
    seen [] (step (core 0x01 0x00 0x00 0xFF 0x00 0x0600 [(0x0600, 0x4A)])) =
      some [0x00, 0x00, 0x00, 0xFF, 0x03, 0x0601, 2, 1] := by decide

theorem test_V43_17_lsrZp :
    seen [0x0010] (step (core 0x00 0x00 0x00 0xFF 0x81 0x0600 [(0x0010, 0x80), (0x0600, 0x46), (0x0601, 0x10)])) =
      some [0x00, 0x00, 0x00, 0xFF, 0x00, 0x0602, 5, 1, 0x40] := by decide

theorem test_V43_18_rolAcc :
    seen [] (step (core 0x40 0x00 0x00 0xFF 0x01 0x0600 [(0x0600, 0x2A)])) =
      some [0x81, 0x00, 0x00, 0xFF, 0x80, 0x0601, 2, 1] := by decide

theorem test_V43_19_rolAcc :
    seen [] (step (core 0x80 0x00 0x00 0xFF 0x00 0x0600 [(0x0600, 0x2A)])) =
      some [0x00, 0x00, 0x00, 0xFF, 0x03, 0x0601, 2, 1] := by decide

theorem test_V43_20_rolAbs :
    seen [0x0200] (step (core 0x00 0x00 0x00 0xFF 0x01 0x0600 [(0x0200, 0x00), (0x0600, 0x2E), (0x0601, 0x00), (0x0602, 0x02)])) =
      some [0x00, 0x00, 0x00, 0xFF, 0x00, 0x0603, 6, 1, 0x01] := by decide

theorem test_V43_21_rorAcc :
    seen [] (step (core 0x01 0x00 0x00 0xFF 0x01 0x0600 [(0x0600, 0x6A)])) =
      some [0x80, 0x00, 0x00, 0xFF, 0x81, 0x0601, 2, 1] := by decide

theorem test_V43_22_rorAcc :
    seen [] (step (core 0x01 0x00 0x00 0xFF 0x00 0x0600 [(0x0600, 0x6A)])) =
      some [0x00, 0x00, 0x00, 0xFF, 0x03, 0x0601, 2, 1] := by decide

theorem test_V43_23_rorZpx :
    seen [0x0012] (step (core 0x00 0x02 0x00 0xFF 0x01 0x0600 [(0x0012, 0x00), (0x0600, 0x76), (0x0601, 0x10)])) =
      some [0x00, 0x02, 0x00, 0xFF, 0x80, 0x0602, 6, 1, 0x80] := by decide

theorem test_V43_24_bitZp :
    seen [] (step (core 0x01 0x00 0x00 0xFF 0x00 0x0600 [(0x0010, 0x41), (0x0600, 0x24), (0x0601, 0x10)])) =
      some [0x01, 0x00, 0x00, 0xFF, 0x40, 0x0602, 3, 1] := by decide

theorem test_V43_25_bitZp :
    seen [] (step (core 0x00 0x00 0x00 0xFF 0x00 0x0600 [(0x0010, 0xC0), (0x0600, 0x24), (0x0601, 0x10)])) =
      some [0x00, 0x00, 0x00, 0xFF, 0xC2, 0x0602, 3, 1] := by decide

theorem test_V43_26_bitAbs :
    seen [] (step (core 0xFF 0x00 0x00 0xFF 0xC2 0x0600 [(0x0300, 0x3F), (0x0600, 0x2C), (0x0601, 0x00), (0x0602, 0x03)])) =
      some [0xFF, 0x00, 0x00, 0xFF, 0x00, 0x0603, 4, 1] := by decide

theorem test_V44_01_bcc :
    seen [] (step (core 0x00 0x00 0x00 0xFF 0x00 0x0600 [(0x0600, 0x90), (0x0601, 0x04)])) =
      some [0x00, 0x00, 0x00, 0xFF, 0x00, 0x0606, 3, 1] := by decide

theorem test_V44_02_bcc :
    seen [] (step (core 0x00 0x00 0x00 0xFF 0x01 0x0600 [(0x0600, 0x90), (0x0601, 0x04)])) =
      some [0x00, 0x00, 0x00, 0xFF, 0x01, 0x0602, 2, 1] := by decide

theorem test_V44_03_bcs :
    seen [] (step (core 0x00 0x00 0x00 0xFF 0x01 0x0600 [(0x0600, 0xB0), (0x0601, 0xFC)])) =
      some [0x00, 0x00, 0x00, 0xFF, 0x01, 0x05FE, 4, 1] := by decide

theorem test_V44_12_beq :
    seen [] (step (core 0x00 0x00 0x00 0xFF 0x02 0x06FE [(0x06FE, 0xF0), (0x06FF, 0x00)])) =
      some [0x00, 0x00, 0x00, 0xFF, 0x02, 0x0700, 3, 1] := by decide

theorem test_V44_13_beq :
    seen [] (step (core 0x00 0x00 0x00 0xFF 0x02 0x06FE [(0x06FE, 0xF0), (0x06FF, 0xFF)])) =
      some [0x00, 0x00, 0x00, 0xFF, 0x02, 0x06FF, 4, 1] := by decide

theorem test_V44_05_bne :
    seen [] (step (core 0x00 0x00 0x00 0xFF 0x00 0x0600 [(0x0600, 0xD0), (0x0601, 0xFE)])) =
      some [0x00, 0x00, 0x00, 0xFF, 0x00, 0x0600, 3, 1] := by decide

theorem test_V44_06_bne :
    seen [] (step (core 0x00 0x00 0x00 0xFF 0x02 0x0600 [(0x0600, 0xD0), (0x0601, 0xFE)])) =
      some [0x00, 0x00, 0x00, 0xFF, 0x02, 0x0602, 2, 1] := by decide

theorem test_V44_07_bmi :
    seen [] (step (core 0x00 0x00 0x00 0xFF 0x80 0x0600 [(0x0600, 0x30), (0x0601, 0x80)])) =
      some [0x00, 0x00, 0x00, 0xFF, 0x80, 0x0582, 4, 1] := by decide

theorem test_V44_08_bpl :
    seen [] (step (core 0x00 0x00 0x00 0xFF 0x00 0x0600 [(0x0600, 0x10), (0x0601, 0x00)])) =
      some [0x00, 0x00, 0x00, 0xFF, 0x00, 0x0602, 3, 1] := by decide

theorem test_V44_09_bvc :
    seen [] (step (core 0x00 0x00 0x00 0xFF 0x00 0xFFFC [(0xFFFC, 0x50), (0xFFFD, 0x02)])) =
      some [0x00, 0x00, 0x00, 0xFF, 0x00, 0x0000, 4, 1] := by decide

theorem test_V44_10_bvs :
    seen [] (step (core 0x00 0x00 0x00 0xFF 0x40 0x0600 [(0x0600, 0x70), (0x0601, 0x02)])) =
      some [0x00, 0x00, 0x00, 0xFF, 0x40, 0x0604, 3, 1] := by decide

theorem test_V44_14_jmpAbs :
    seen [] (step (core 0x00 0x00 0x00 0xFF 0x00 0x0600 [(0x0600, 0x4C), (0x0601, 0x34), (0x0602, 0x12)])) =
      some [0x00, 0x00, 0x00, 0xFF, 0x00, 0x1234, 3, 1] := by decide

theorem test_V44_15_jmpInd :
    seen [] (step (core 0x00 0x00 0x00 0xFF 0x00 0x0600 [(0x1234, 0x78), (0x1235, 0x56), (0x0600, 0x6C), (0x0601, 0x34), (0x0602, 0x12)])) =
      some [0x00, 0x00, 0x00, 0xFF, 0x00, 0x5678, 5, 1] := by decide

theorem test_V44_16_jmpInd :
    seen [] (step (core 0x00 0x00 0x00 0xFF 0x00 0x0600 [(0x12FF, 0x34), (0x1200, 0x56), (0x1300, 0x78), (0x0600, 0x6C), (0x0601, 0xFF), (0x0602, 0x12)])) =
      some [0x00, 0x00, 0x00, 0xFF, 0x00, 0x5634, 5, 1] := by decide

theorem test_V44_17_jsr :
    seen [0x01FF, 0x01FE] (step (core 0x00 0x00 0x00 0xFF 0x00 0x0605 [(0x0605, 0x20), (0x0606, 0x0B), (0x0607, 0x06)])) =
      some [0x00, 0x00, 0x00, 0xFD, 0x00, 0x060B, 6, 1, 0x06, 0x07] := by decide

theorem test_V44_18_jsr :
    seen [0x0100, 0x01FF] (step (core 0x00 0x00 0x00 0x00 0x00 0x0600 [(0x0600, 0x20), (0x0601, 0x00), (0x0602, 0x30)])) =
      some [0x00, 0x00, 0x00, 0xFE, 0x00, 0x3000, 6, 1, 0x06, 0x02] := by decide

theorem test_V44_20_rts :
    seen [] (step (core 0x00 0x00 0x00 0xFD 0x00 0x0600 [(0x01FE, 0xFF), (0x01FF, 0xFF), (0x0600, 0x60)])) =
      some [0x00, 0x00, 0x00, 0xFF, 0x00, 0x0000, 6, 1] := by decide

theorem test_V44_21_rts :
    seen [] (step (core 0x00 0x00 0x00 0xFF 0x00 0x0600 [(0x0100, 0x33), (0x0101, 0x22), (0x0600, 0x60)])) =
      some [0x00, 0x00, 0x00, 0x01, 0x00, 0x2234, 6, 1] := by decide

theorem test_V45_02_pha :
    seen [0x0100] (step (core 0x01 0x00 0x00 0x00 0x00 0x0600 [(0x0600, 0x48)])) =
      some [0x01, 0x00, 0x00, 0xFF, 0x00, 0x0601, 3, 1, 0x01] := by decide

theorem test_V45_03_php :
    seen [0x01FF] (step (core 0x00 0x00 0x00 0xFF 0x81 0x0600 [(0x0600, 0x08)])) =
      some [0x00, 0x00, 0x00, 0xFE, 0x81, 0x0601, 3, 1, 0xB1] := by decide

theorem test_V45_04_php :
    seen [0x01FF] (step (core 0x00 0x00 0x00 0xFF 0xFF 0x0600 [(0x0600, 0x08)])) =
      some [0x00, 0x00, 0x00, 0xFE, 0xFF, 0x0601, 3, 1, 0xFF] := by decide

theorem test_V45_05_pla :
    seen [] (step (core 0x55 0x00 0x00 0xFC 0x00 0x0600 [(0x01FD, 0x00), (0x0600, 0x68)])) =
      some [0x00, 0x00, 0x00, 0xFD, 0x02, 0x0601, 4, 1] := by decide

theorem test_V45_06_pla :
    seen [] (step (core 0x00 0x00 0x00 0xFF 0x00 0x0600 [(0x0100, 0x80), (0x0200, 0x11), (0x0600, 0x68)])) =
      some [0x80, 0x00, 0x00, 0x00, 0x80, 0x0601, 4, 1] := by decide

theorem test_V45_07_plp :
    seen [] (step (core 0x00 0x00 0x00 0xFE 0x00 0x0600 [(0x01FF, 0xFF), (0x0600, 0x28)])) =
      some [0x00, 0x00, 0x00, 0xFF, 0xFF, 0x0601, 4, 1] := by decide

theorem test_V45_08_plp :
    seen [] (step (core 0x00 0x00 0x00 0xFE 0xFF 0x0600 [(0x01FF, 0x00), (0x0600, 0x28)])) =
      some [0x00, 0x00, 0x00, 0xFF, 0x00, 0x0601, 4, 1] := by decide

theorem test_V45_10_brk :
    seen [0x01FF, 0x01FE, 0x01FD] (step (core 0x00 0x00 0x00 0xFF 0x00 0x2000 [(0xFFFE, 0x00), (0xFFFF, 0x30), (0x2000, 0x00)])) =
      some [0x00, 0x00, 0x00, 0xFC, 0x04, 0x3000, 7, 1, 0x20, 0x02, 0x30] := by decide

theorem test_V45_11_brk :
    seen [0x0101, 0x0100, 0x01FF] (step (core 0x00 0x00 0x00 0x01 0x09 0x12FF [(0xFFFE, 0xCD), (0xFFFF, 0xAB), (0x12FF, 0x00)])) =
      some [0x00, 0x00, 0x00, 0xFE, 0x0D, 0xABCD, 7, 1, 0x13, 0x01, 0x39] := by decide

theorem test_V45_13_rti :
    seen [] (step (core 0x00 0x00 0x00 0xFC 0x04 0x3000 [(0x01FD, 0x30), (0x01FE, 0x02), (0x01FF, 0x20), (0x3000, 0x40)])) =
      some [0x00, 0x00, 0x00, 0xFF, 0x00, 0x2002, 6, 1] := by decide

theorem test_V45_14_rti :
    seen [] (step (core 0x00 0x00 0x00 0xFC 0x00 0x3000 [(0x01FD, 0xFF), (0x01FE, 0x34), (0x01FF, 0x12), (0x3000, 0x40)])) =
      some [0x00, 0x00, 0x00, 0xFF, 0xCF, 0x1234, 6, 1] := by decide

theorem test_V45_16_sec :
    seen [] (step (core 0x00 0x00 0x00 0xFF 0x00 0x0600 [(0x0600, 0x38)])) =
      some [0x00, 0x00, 0x00, 0xFF, 0x01, 0x0601, 2, 1] := by decide

theorem test_V45_17_clc :
    seen [] (step (core 0x00 0x00 0x00 0xFF 0xFF 0x0600 [(0x0600, 0x18)])) =
      some [0x00, 0x00, 0x00, 0xFF, 0xFE, 0x0601, 2, 1] := by decide

theorem test_V45_18_sei :
    seen [] (step (core 0x00 0x00 0x00 0xFF 0x00 0x0600 [(0x0600, 0x78)])) =
      some [0x00, 0x00, 0x00, 0xFF, 0x04, 0x0601, 2, 1] := by decide

theorem test_V45_19_cli :
    seen [] (step (core 0x00 0x00 0x00 0xFF 0xFF 0x0600 [(0x0600, 0x58)])) =
      some [0x00, 0x00, 0x00, 0xFF, 0xFB, 0x0601, 2, 1] := by decide

theorem test_V45_20_sed :
    seen [] (step (core 0x00 0x00 0x00 0xFF 0x00 0x0600 [(0x0600, 0xF8)])) =
      some [0x00, 0x00, 0x00, 0xFF, 0x08, 0x0601, 2, 1] := by decide

theorem test_V45_21_cld :
    seen [] (step (core 0x00 0x00 0x00 0xFF 0xFF 0x0600 [(0x0600, 0xD8)])) =
      some [0x00, 0x00, 0x00, 0xFF, 0xF7, 0x0601, 2, 1] := by decide

theorem test_V45_22_clv :
    seen [] (step (core 0x00 0x00 0x00 0xFF 0xFF 0x0600 [(0x0600, 0xB8)])) =
      some [0x00, 0x00, 0x00, 0xFF, 0xBF, 0x0601, 2, 1] := by decide

theorem test_V45_23_nop :
    seen [] (step (core 0x01 0x02 0x03 0xFF 0xA5 0x0600 [(0x0600, 0xEA)])) =
      some [0x01, 0x02, 0x03, 0xFF, 0xA5, 0x0601, 2, 1] := by decide

theorem test_V45_24_nop :
    seen [] (step (core 0x00 0x00 0x00 0xFF 0x00 0xFFFF [(0xFFFF, 0xEA)])) =
      some [0x00, 0x00, 0x00, 0xFF, 0x00, 0x0000, 2, 1] := by decide

theorem test_V60_06_ldaAbs :
    seen [] (step (core 0x00 0x00 0x00 0xFF 0x00 0xFFFE [(0x0000, 0x12), (0x1234, 0x5A), (0xFFFE, 0xAD), (0xFFFF, 0x34)])) =
      some [0x5A, 0x00, 0x00, 0xFF, 0x00, 0x0001, 4, 1] := by decide

theorem test_V60_01_illegal :
    step (core 0x12 0x00 0x00 0xFF 0x24 0x0600 [(0x0600, 0x02)]) =
      .next ((core 0x12 0x00 0x00 0xFF 0x24 0x0600 [(0x0600, 0x02)]).setRun
        (.stopped (.illegalOpcode 0x02 0x0600))) := rfl

theorem test_V60_03_illegal :
    step (core 0x00 0x00 0x00 0xFF 0x00 0x0600 [(0x0600, 0x1A)]) =
      .next ((core 0x00 0x00 0x00 0xFF 0x00 0x0600 [(0x0600, 0x1A)]).setRun
        (.stopped (.illegalOpcode 0x1A 0x0600))) := rfl

/-! ### The fetch word and the run -/

theorem test_withFetchWord :
    seen [] (step (State.reset.withFetchWord 16 0x2AA9)) = some [0x2A, 0, 0, 0, 0, 2, 2, 1] := by decide

/-- RC7 of 95_test_vectors.md. -/
theorem test_RC7 : run baseCycles (.maxInstructions 1) 3 (core 0 0 0 0xFF 0 0x0600 [(0x0600, 0xEA), (0x0601, 0xEA)]) =
    .returned { core 0 0 0 0xFF 0 0x0601 [(0x0600, 0xEA), (0x0601, 0xEA)] with
      cyc := 2, ins := 1, run := .stopped .maxInstructions } := by decide

/-- RC6 of 95_test_vectors.md. -/
theorem test_RC6 : run baseCycles .forever 3 (core 0 0 0 0xFF 0 0x0600 [(0x0600, 0xEA), (0x0601, 0x02)]) =
    .returned { core 0 0 0 0xFF 0 0x0601 [(0x0600, 0xEA), (0x0601, 0x02)] with
      cyc := 2, ins := 1, run := .stopped (.illegalOpcode 0x02 0x0601) } := by decide

theorem test_maxInstructions_zero : run baseCycles (.maxInstructions 0) 3 State.reset = .refused .maxInstructionsZero := by decide

/-! ### The cycle table as an argument -/

/-- The default but for NOP, which counts 5. -/
def otherTable : BaseCycles := fun op => if op = 0xEA then 5 else baseCycles op

theorem test_default_table_wf : baseCycles.wf = true := by decide

theorem test_other_table_wf : otherTable.wf = true := by decide

/-- Refused: a table that counts 1 for one legal opcode byte, and one that counts 8. -/
theorem test_bad_tables_refused : BaseCycles.wf (fun op => if op = 0xFE then 1 else baseCycles op) = false ∧
    BaseCycles.wf (fun op => if op = 0x00 then 8 else baseCycles op) = false := by decide

/-- RC7 of 95_test_vectors.md with the other table: CYC alone differs. -/
theorem test_RC7_other_table : run otherTable (.maxInstructions 1) 3 (core 0 0 0 0xFF 0 0x0600 [(0x0600, 0xEA), (0x0601, 0xEA)]) =
    .returned { core 0 0 0 0xFF 0 0x0601 [(0x0600, 0xEA), (0x0601, 0xEA)] with
      cyc := 5, ins := 1, run := .stopped .maxInstructions } := by decide

/-! ### Witnesses: for each obligation with hypotheses, states and operands that meet them together

`sample` is a running core with code, data, a pointer and the trap vector in memory; P has every flag set but D. -/

def sample : State := core 0x7F 0xFF 0x01 0x00 0xF7 0x0600
  [(0x0600, 0xAD), (0x0601, 0x34), (0x0602, 0x12), (0x0010, 0x80), (0x00FF, 0x00), (0x0100, 0x40), (0x1234, 0x5A), (0xFFFE, 0x00),
    (0xFFFF, 0x30)]

/-- `sample` at an illegal byte. -/
def sampleIllegal : State := core 0x7F 0xFF 0x01 0x00 0xF7 0xFFFF [(0xFFFF, 0x02)]

/-- `sample` in decimal mode, and a state that shares only A, C and D with it. -/
def sampleDecimal : State := { sample with p := 0xFF }
def otherDecimal : State := core 0x7F 0 0 0 0x09 0 []

theorem sample_reads : (sample.readByte 0x0600, sample.readByte 0xFFFF, sample.readByte 0x1234) = (0xAD, 0x30, 0x5A) := by decide

theorem witness_ListedBytesSpellNoInstruction : (0x02 : Byte).toNat ∈ illegalOpcodes ∧ (0xFF : Byte).toNat ∈ illegalOpcodes := by
  decide

theorem witness_CodeLengthIsTheModeSize : 2 < (Instr.jmpAbs 0).size ∧ 0 < Instr.nop.size := by decide

theorem witness_StepRunsTheDecodedInstruction : sample.run = .running ∧
    ∀ n (h : n < (encode (.ldaAbs 0x1234)).length), sample.readByte (sample.pc + BitVec.ofNat 16 n) = (encode (.ldaAbs 0x1234))[n] := by
  decide

/-- The same at the end of the address space: the operand bytes are at 0x0000 and 0x0001. -/
theorem witness_StepRunsTheDecodedInstruction_wrap :
    let s := core 0 0 0 0 0 0xFFFF [(0xFFFF, 0xAD), (0x0000, 0x34), (0x0001, 0x12)]
    s.run = .running ∧ ∀ n (h : n < (encode (.ldaAbs 0x1234)).length),
      s.readByte (s.pc + BitVec.ofNat 16 n) = (encode (.ldaAbs 0x1234))[n] := by decide

theorem witness_IllegalOpcodeHaltsPrecisely : sampleIllegal.run = .running ∧
    (sampleIllegal.readByte sampleIllegal.pc).toNat ∈ illegalOpcodes ∧ (Evaluator.maxInstructions 1).wf = true := by decide

theorem witness_StoppedCoreRests :
    let s := sampleIllegal.setRun (.stopped (.illegalOpcode 0x02 0xFFFF))
    State.reset.run = .stopped .notStarted ∧ Evaluator.forever.wf = true ∧ (s.readByte s.pc).toNat ∈ illegalOpcodes ∧
      s.run = .stopped (.illegalOpcode (s.readByte s.pc) s.pc) := by decide

theorem witness_StepAlwaysAnswersANextState : sample.run = .running ∧ sampleIllegal.run = .running := by decide

theorem witness_StepKeepsMemoryCanonical : ∃ t, sample.wf = true ∧ step sample = .next t ∧ t.a = 0x5A :=
  ⟨_, by decide, rfl, by decide⟩

theorem witness_ResetMemoryIsCanonical : sample.wf = true ∧ sample.mem ≠ [] := by decide

/-- Two orders of writing the same two bytes. -/
theorem witness_CanonicalMemoriesThatReadAlikeAreEqual :
    let s := core 1 2 3 4 5 6 [(0x10, 0xAA), (0x20, 0xBB)]
    let t := core 1 2 3 4 5 6 [(0x20, 0xBB), (0x10, 0xAA), (0x30, 0x00)]
    s.wf = true ∧ t.wf = true ∧ regsOf s = regsOf t ∧ s.p = t.p ∧ s.cyc = t.cyc ∧ s.ins = t.ins ∧ s.run = t.run ∧ s = t := by decide

theorem witness_MemoryPrimitives : sample.wf = true ∧ (0xFFFF : Word) ≠ 0 ∧ (7 : Nat) < 8 ∧
    (sample.writeWord 0xFFFF 0x1234).readByte 0xFFFF = 0x34 ∧ (sample.writeWord 0xFFFF 0x1234).readByte 0 = 0x12 := by decide

theorem witness_StackHelpers : sample.wf = true ∧ (push16 0x1234 sample).readByte 0x0100 = 0x12 ∧
    (push16 0x1234 sample).readByte 0x01FF = 0x34 ∧ (push16 0x1234 sample).sp = 0xFE := by decide

/-- The index sums at the edges: 0x80 + 0xFF wraps in page 0, 0xFFFF + 1 wraps and crosses, 0x1200 + 0xFF does not cross. -/
theorem witness_addresses : (zpx 0x80 sample).ea = 0x007F ∧ aby 0xFFFF sample = ⟨0x0000, true⟩ ∧ abx 0x1200 sample = ⟨0x12FF, false⟩ := by
  decide

theorem witness_IndirectPointerStaysInItsPage : (0x12FE : Word).toNat % 256 ≠ 255 ∧ (0x12FF : Word).toNat % 256 = 255 ∧
    jmpPointerHigh 0x12FE = 0x12FF ∧ jmpPointerHigh 0x12FF = 0x1200 := by decide

theorem witness_ZeroPagePointers_below : (0xFE : Byte) ≠ 0xFF ∧ zpPointerHigh 0xFE = 0x00FF := by decide

/-- ZP_POINTER_WRAP is open: one of the two settings holds, and each settles its clause. -/
theorem witness_ZeroPagePointers_settings :
    (Config.zpPointerWrap = .wrap16 ∧ zpPointerHigh 0xFF = 0x0100) ∨ (Config.zpPointerWrap = .wrap8 ∧ zpPointerHigh 0xFF = 0x0000) := by
  unfold zpPointerHigh
  cases Config.zpPointerWrap <;> simp

/-- The states of StoreForms, IncDecMemoryForms, ShiftForms, RotateForms, SubroutineForms, PushForms, PullForms, BreakEntry and
BreakReturn: memory is in canonical form; SP = 0x00, so the pushes wrap. -/
theorem witness_memory_forms : sample.wf = true ∧ sample.sp = 0x00 ∧ sample.mem.length = 7 := by decide

theorem witness_AdcForms : sample.p.getLsbD 3 = false ∧ (adcOutcome sample 0x00).1 = 0x80 ∧
    (adcOutcome sample 0x00).2.lookup 6 = some true := by decide

theorem witness_SbcForms : sample.p.getLsbD 3 = false ∧ (sbcOutcome sample 0xFF).1 = 0x80 ∧
    (sbcOutcome sample 0xFF).2.lookup 6 = some true := by decide

theorem witness_DecimalResultsDependOnThreeArguments : sampleDecimal.p.getLsbD 3 = true ∧ otherDecimal.p.getLsbD 3 = true ∧
    sampleDecimal.a = otherDecimal.a ∧ sampleDecimal.p.getLsbD 0 = otherDecimal.p.getLsbD 0 ∧ sampleDecimal ≠ otherDecimal := by decide

theorem witness_OnlyListedInstructionsWriteTheRegisters : ∃ t, exec (.staZp 0x10) sample = .next t ∧
    Instr.mnemonic (.staZp 0x10) ∉ [Mnemonic.lda, .and, .ora, .eor, .adc, .sbc, .txa, .tya, .pla] ∧ t.a = 0x7F :=
  ⟨_, rfl, by decide, by decide⟩

theorem witness_OnlyListedInstructionsWriteTheFlags : ∃ t, exec .nop sample = .next t ∧
    Instr.nop.mnemonic ∉ [Mnemonic.plp, .rti] ∧ t.p = 0xF7 :=
  ⟨_, rfl, by decide, by decide⟩

theorem witness_OnlyListedInstructionsWriteMemory : ∃ t, sample.wf = true ∧ exec .pha sample = .next t ∧
    Instr.pha.mnemonic ∈ [Mnemonic.pha, .php, .jsr, .brk] ∧ (0x0200 : Word).toNat / 256 ≠ 1 ∧ t.readByte 0x0100 = 0x7F :=
  ⟨_, by decide, rfl, by decide, by decide, by decide⟩

theorem witness_InterruptDisableSelectsNothing : ({ sample with p := 0x00 } : State).wf = true ∧ Instr.plp ≠ .php ∧ Instr.plp ≠ .brk := by
  decide

theorem witness_HostReadsBackWhatItSets : Reg.pc ≠ Reg.cyc ∧ Reg.a ≠ Reg.p := by decide

theorem witness_LoadPlacesTheBytes : sample.wf = true ∧ ([0x11, 0x22] : List Byte).length ≤ 65536 ∧
    (sample.load 0xFFFF [0x11, 0x22]).readByte 0xFFFF = 0x11 ∧ (sample.load 0xFFFF [0x11, 0x22]).readByte 0x0000 = 0x22 := by decide

theorem witness_RunStops : ∃ t, run baseCycles (.opcodeReached 0x00) 2 sample = .returned t ∧ t.run = .stopped (.opcodeReached 0x00) :=
  ⟨_, rfl, by decide⟩

theorem witness_MaxInstructionsRunsExactlyN : (1 : Counter) ≠ 0 ∧ ∃ t, run baseCycles (.maxInstructions 1) 1 sample = .returned t ∧
    t.run = .stopped .maxInstructions :=
  ⟨by decide, _, rfl, by decide⟩

/-- After the step the byte at PC is 0x00: equal to one target, different from another. -/
theorem witness_EvaluatorIsAskedAfterEachInstruction : ∃ t, stepWith baseCycles sample = .next t ∧ t.run = .running ∧ t.readByte t.pc = 0x00 ∧
    t.readByte t.pc ≠ 0x01 ∧ decide (t.a = 0x5A) = true ∧ decide (t.a = 0x00) = false :=
  ⟨_, rfl, by decide, by decide, by decide, by decide, by decide⟩

theorem witness_CycleTableIsAnArgument : otherTable.wf = true ∧ otherTable 0xEA ≠ baseCycles 0xEA ∧ sample.run = .running ∧
    ∀ n (h : n < (encode (.ldaAbs 0x1234)).length), sample.readByte (sample.pc + BitVec.ofNat 16 n) = (encode (.ldaAbs 0x1234))[n] := by
  decide

/-- A predicate that does not look at CYC, and one that does. -/
theorem witness_CycleTableReachesOnlyCyc : IgnoresCyc (.maxInstructions 1) ∧ IgnoresCyc (.predicate fun s => s.a == 0x5A) ∧
    ¬ IgnoresCyc (.predicate fun s => s.cyc == 0) :=
  ⟨trivial, fun _ _ => rfl, fun h => absurd (h State.reset 1) (by decide)⟩

end Sys2Proof.Tests
end

section
/-! PROOF. Every instruction ends its execute phase by retiring: its effect leaves the counters and RUN alone and accounting then
advances them, by an extra that the row of the opcode byte bounds (40_step_and_addressing.md R118 to R121). -/

namespace Sys2Proof.Machine

/-- The fields no effect of an instruction writes: the counters, which accounting owns, and RUN. -/
structure SameCounters (s t : State) : Prop where
  cyc : t.cyc = s.cyc
  ins : t.ins = s.ins
  run : t.run = s.run

/-- The most extra cycles a row of the opcode table allows (R119, 44_control_transfer.md R190). -/
def extraBound : ExtraRule → Nat
  | .none => 0
  | .pageCross => 1
  | .branch => 2

theorem bit01_le_one (b : Bool) : bit01 b ≤ 1 := by cases b <;> decide

theorem takenExtra_le_two (target next : Word) : takenExtra target next ≤ 2 :=
  Nat.add_le_add_left (bit01_le_one _) 1

theorem extraCycles_le_extraBound {branchExtra : Nat} (h : branchExtra ≤ 2) (op : Byte) (crossed : Bool) :
    extraCycles op crossed branchExtra ≤ extraBound (extraRule op) := by
  unfold extraCycles
  cases extraRule op with
  | none => exact Nat.le_refl 0
  | pageCross => exact bit01_le_one crossed
  | branch => exact h

/-- `r` is the end of an instruction with opcode byte `op` whose effect on `s` kept the counters and RUN. -/
def Retires (op : Byte) (s : State) (r : Result) : Prop :=
  ∃ (crossed : Bool) (branchExtra : Nat) (u : State), branchExtra ≤ 2 ∧ SameCounters s u ∧ r = retire op crossed branchExtra u

section shapes
variable {op : Byte} {s u : State} {effect : Byte → State → State} {r : Resolved}

theorem retire_retires {crossed : Bool} {branchExtra : Nat} (hb : branchExtra ≤ 2) (h : SameCounters s u) :
    Retires op s (retire op crossed branchExtra u) :=
  ⟨crossed, branchExtra, u, hb, h, rfl⟩

theorem implied_retires (h : SameCounters s u) : Retires op s (implied op u) := retire_retires (Nat.zero_le 2) h

theorem immediate_retires {nn : Byte} (h : ∀ m, SameCounters s (effect m s)) : Retires op s (immediate op effect nn s) :=
  retire_retires (Nat.zero_le 2) (h nn)

theorem readMem_retires (h : ∀ m, SameCounters s (effect m s)) : Retires op s (readMem op effect r s) :=
  retire_retires (Nat.zero_le 2) (h _)

theorem storeMem_retires {v : Byte} : Retires op s (storeMem op v r s) :=
  retire_retires (Nat.zero_le 2) ⟨rfl, rfl, rfl⟩

theorem rmwMem_retires {f : Byte → Byte → ByteAndStatus} : Retires op s (rmwMem op f r s) :=
  retire_retires (Nat.zero_le 2) ⟨rfl, rfl, rfl⟩

theorem rmwAcc_retires {f : Byte → Byte → ByteAndStatus} : Retires op s (rmwAcc op f s) :=
  retire_retires (Nat.zero_le 2) ⟨rfl, rfl, rfl⟩

theorem branch_retires {cond : Bool} {disp : Byte} : Retires op s (branch op cond disp s) := by
  cases cond with
  | false => exact retire_retires (Nat.zero_le 2) ⟨rfl, rfl, rfl⟩
  | true => exact retire_retires (takenExtra_le_two _ _) ⟨rfl, rfl, rfl⟩

end shapes

/-! The four effects made of several stack operations; of every other effect it holds by definition. -/

theorem callSubroutine_sameCounters (target : Word) (s : State) : SameCounters s (callSubroutine target s) :=
  ⟨push16_cyc s (s.pc - 1), push16_ins s (s.pc - 1), push16_run s (s.pc - 1)⟩

theorem returnFromSubroutine_sameCounters (s : State) : SameCounters s (returnFromSubroutine s) :=
  ⟨pop16State_cyc s, pop16State_ins s, pop16State_run s⟩

theorem takeBreak_sameCounters (s : State) : SameCounters s (takeBreak s) :=
  ⟨takeBreak_cyc s, takeBreak_ins s, takeBreak_run s⟩

theorem returnFromBreak_sameCounters (s : State) : SameCounters s (returnFromBreak s) :=
  ⟨returnFromBreak_cyc s, returnFromBreak_ins s, returnFromBreak_run s⟩

/-- The instructions by the shape of their execute phase. -/
theorem exec_retires (i : Instr) (s : State) : Retires i.opcode s (exec i s) := by
  cases i with
  | ldaIzx _ | ldaZp _ | ldaAbs _ | ldaIzy _ | ldaZpx _ | ldaAby _ | ldaAbx _ | ldxZp _ | ldxAbs _ | ldxZpy _
  | ldxAby _ | ldyZp _ | ldyAbs _ | ldyZpx _ | ldyAbx _ | andIzx _ | andZp _ | andAbs _ | andIzy _ | andZpx _
  | andAby _ | andAbx _ | oraIzx _ | oraZp _ | oraAbs _ | oraIzy _ | oraZpx _ | oraAby _ | oraAbx _ | eorIzx _
  | eorZp _ | eorAbs _ | eorIzy _ | eorZpx _ | eorAby _ | eorAbx _ | adcIzx _ | adcZp _ | adcAbs _ | adcIzy _
  | adcZpx _ | adcAby _ | adcAbx _ | sbcIzx _ | sbcZp _ | sbcAbs _ | sbcIzy _ | sbcZpx _ | sbcAby _ | sbcAbx _
  | cmpIzx _ | cmpZp _ | cmpAbs _ | cmpIzy _ | cmpZpx _ | cmpAby _ | cmpAbx _ | cpxZp _ | cpxAbs _ | cpyZp _
  | cpyAbs _ | bitZp _ | bitAbs _ => exact readMem_retires fun _ => ⟨rfl, rfl, rfl⟩
  | ldaImm _ | ldxImm _ | ldyImm _ | andImm _ | oraImm _ | eorImm _ | adcImm _ | sbcImm _ | cmpImm _ | cpxImm _
  | cpyImm _ => exact immediate_retires fun _ => ⟨rfl, rfl, rfl⟩
  | staIzx _ | staZp _ | staAbs _ | staIzy _ | staZpx _ | staAby _ | staAbx _ | stxZp _ | stxAbs _ | stxZpy _
  | styZp _ | styAbs _ | styZpx _ => exact storeMem_retires
  | incZp _ | incAbs _ | incZpx _ | incAbx _ | decZp _ | decAbs _ | decZpx _ | decAbx _ | aslZp _ | aslAbs _
  | aslZpx _ | aslAbx _ | lsrZp _ | lsrAbs _ | lsrZpx _ | lsrAbx _ | rolZp _ | rolAbs _ | rolZpx _ | rolAbx _
  | rorZp _ | rorAbs _ | rorZpx _ | rorAbx _ => exact rmwMem_retires
  | aslAcc | lsrAcc | rolAcc | rorAcc => exact rmwAcc_retires
  | bcc _ | bcs _ | beq _ | bne _ | bmi _ | bpl _ | bvc _ | bvs _ => exact branch_retires
  | tax | tay | txa | tya | tsx | txs | inx | iny | dex | dey | jmpAbs _ | jmpInd _ | pha | php | pla | plp
  | sec | clc | sei | cli | sed | cld | clv | nop => exact implied_retires ⟨rfl, rfl, rfl⟩
  | jsr _ => exact implied_retires (callSubroutine_sameCounters _ s)
  | rts => exact implied_retires (returnFromSubroutine_sameCounters s)
  | brk => exact implied_retires (takeBreak_sameCounters s)
  | rti => exact implied_retires (returnFromBreak_sameCounters s)

/-- Completion and accounting: an effect that keeps the counters, then the default count and a bounded extra. -/
theorem exec_eq_account (i : Instr) (s : State) : ∃ (v : State) (extra : Nat), SameCounters s v ∧
    extra ≤ extraBound (extraRule i.opcode) ∧ exec i s = .next (account (baseCycles i.opcode + extra) v) := by
  obtain ⟨crossed, branchExtra, v, hb, hv, he⟩ := exec_retires i s
  exact ⟨v, extraCycles i.opcode crossed branchExtra, hv, extraCycles_le_extraBound hb _ _, he⟩

end Sys2Proof.Machine
end

section
/-! PROOF. The bytes of an instruction at PC are fetched and decoded as that instruction, whatever stands after them
(40_step_and_addressing.md R101 to R103). -/

namespace Sys2Proof.Laws.CodeForm

/-- What CodeForm says holds of every instruction. -/
theorem statement : ∀ i : Instr, Statement i
  | .ldaIzx b => ldaIzx b | .ldaZp b => ldaZp b | .ldaImm b => ldaImm b | .ldaAbs b => ldaAbs b
  | .ldaIzy b => ldaIzy b | .ldaZpx b => ldaZpx b | .ldaAby b => ldaAby b | .ldaAbx b => ldaAbx b
  | .ldxImm b => ldxImm b | .ldxZp b => ldxZp b | .ldxAbs b => ldxAbs b | .ldxZpy b => ldxZpy b
  | .ldxAby b => ldxAby b | .ldyImm b => ldyImm b | .ldyZp b => ldyZp b | .ldyAbs b => ldyAbs b
  | .ldyZpx b => ldyZpx b | .ldyAbx b => ldyAbx b | .andIzx b => andIzx b | .andZp b => andZp b
  | .andImm b => andImm b | .andAbs b => andAbs b | .andIzy b => andIzy b | .andZpx b => andZpx b
  | .andAby b => andAby b | .andAbx b => andAbx b | .oraIzx b => oraIzx b | .oraZp b => oraZp b
  | .oraImm b => oraImm b | .oraAbs b => oraAbs b | .oraIzy b => oraIzy b | .oraZpx b => oraZpx b
  | .oraAby b => oraAby b | .oraAbx b => oraAbx b | .eorIzx b => eorIzx b | .eorZp b => eorZp b
  | .eorImm b => eorImm b | .eorAbs b => eorAbs b | .eorIzy b => eorIzy b | .eorZpx b => eorZpx b
  | .eorAby b => eorAby b | .eorAbx b => eorAbx b | .tax => tax | .tay => tay | .txa => txa | .tya => tya
  | .tsx => tsx | .txs => txs | .staIzx b => staIzx b | .staZp b => staZp b | .staAbs b => staAbs b
  | .staIzy b => staIzy b | .staZpx b => staZpx b | .staAby b => staAby b | .staAbx b => staAbx b
  | .stxZp b => stxZp b | .stxAbs b => stxAbs b | .stxZpy b => stxZpy b | .styZp b => styZp b
  | .styAbs b => styAbs b | .styZpx b => styZpx b | .adcIzx b => adcIzx b | .adcZp b => adcZp b
  | .adcImm b => adcImm b | .adcAbs b => adcAbs b | .adcIzy b => adcIzy b | .adcZpx b => adcZpx b
  | .adcAby b => adcAby b | .adcAbx b => adcAbx b | .sbcIzx b => sbcIzx b | .sbcZp b => sbcZp b
  | .sbcImm b => sbcImm b | .sbcAbs b => sbcAbs b | .sbcIzy b => sbcIzy b | .sbcZpx b => sbcZpx b
  | .sbcAby b => sbcAby b | .sbcAbx b => sbcAbx b | .cmpIzx b => cmpIzx b | .cmpZp b => cmpZp b
  | .cmpImm b => cmpImm b | .cmpAbs b => cmpAbs b | .cmpIzy b => cmpIzy b | .cmpZpx b => cmpZpx b
  | .cmpAby b => cmpAby b | .cmpAbx b => cmpAbx b | .cpxImm b => cpxImm b | .cpxZp b => cpxZp b
  | .cpxAbs b => cpxAbs b | .cpyImm b => cpyImm b | .cpyZp b => cpyZp b | .cpyAbs b => cpyAbs b
  | .incZp b => incZp b | .incAbs b => incAbs b | .incZpx b => incZpx b | .incAbx b => incAbx b
  | .decZp b => decZp b | .decAbs b => decAbs b | .decZpx b => decZpx b | .decAbx b => decAbx b | .inx => inx
  | .iny => iny | .dex => dex | .dey => dey | .aslZp b => aslZp b | .aslAcc => aslAcc | .aslAbs b => aslAbs b
  | .aslZpx b => aslZpx b | .aslAbx b => aslAbx b | .lsrZp b => lsrZp b | .lsrAcc => lsrAcc | .lsrAbs b => lsrAbs b
  | .lsrZpx b => lsrZpx b | .lsrAbx b => lsrAbx b | .rolZp b => rolZp b | .rolAcc => rolAcc | .rolAbs b => rolAbs b
  | .rolZpx b => rolZpx b | .rolAbx b => rolAbx b | .rorZp b => rorZp b | .rorAcc => rorAcc | .rorAbs b => rorAbs b
  | .rorZpx b => rorZpx b | .rorAbx b => rorAbx b | .bitZp b => bitZp b | .bitAbs b => bitAbs b | .bcc b => bcc b
  | .bcs b => bcs b | .beq b => beq b | .bne b => bne b | .bmi b => bmi b | .bpl b => bpl b | .bvc b => bvc b
  | .bvs b => bvs b | .jmpAbs b => jmpAbs b | .jmpInd b => jmpInd b | .jsr b => jsr b | .rts => rts | .pha => pha
  | .php => php | .pla => pla | .plp => plp | .brk => brk | .rti => rti | .sec => sec | .clc => clc | .sei => sei
  | .cli => cli | .sed => sed | .cld => cld | .clv => clv | .nop => nop

end Sys2Proof.Laws.CodeForm

namespace Sys2Proof

/-- The format of every row has the operand bytes its mode needs (30_encoding.md R71, R75). -/
theorem opcodeRows_operandBytes :
    ∀ h < 16, ∀ r ∈ opcodeRows h, r.form.operandBytes + 1 = r.mode.size := by
  decide

theorem rowOf_operandBytes {op : Byte} {r : OpRow} (h : rowOf op = some r) : r.form.operandBytes + 1 = r.mode.size :=
  opcodeRows_operandBytes (op.toNat / 16) (by have := op.isLt; omega) r (List.mem_of_find?_eq_some h)

/-- The row of an instruction's opcode byte has as many operand bytes as the instruction's code. -/
theorem rowOf_opcode (i : Instr) : ∃ r, rowOf i.opcode = some r ∧ r.form.operandBytes + 1 = (encode i).length := by
  obtain ⟨-, hsize, hmode, -⟩ := Laws.CodeForm.statement i
  obtain ⟨r, hr, hm⟩ := Option.map_eq_some_iff.mp hmode
  exact ⟨r, hr, by rw [rowOf_operandBytes hr, hm, hsize, Instr.size]⟩

/-- A format reads no more bytes than its operand has. -/
theorem Form.build_congr {f : Form} {lo hi lo' hi' : Byte} (hlo : 1 ≤ f.operandBytes → lo = lo')
    (hhi : 2 ≤ f.operandBytes → hi = hi') : f.build lo hi = f.build lo' hi' := by
  cases f with
  | f1 i => rfl
  | f2 mk => exact congrArg mk (hlo (Nat.le_refl 1))
  | f3 mk => rw [hlo (Nat.le_succ 1), hhi (Nat.le_refl 2)]

/-- Bytes that agree with an instruction's code as far as it reaches spell that instruction. -/
theorem decodeBytes_of_code {i : Instr} {lo hi : Byte} (hlo : ∀ h : 1 < (encode i).length, lo = (encode i)[1])
    (hhi : ∀ h : 2 < (encode i).length, hi = (encode i)[2]) : decodeBytes i.opcode lo hi = some i := by
  obtain ⟨-, -, -, hdecode⟩ := Laws.CodeForm.statement i
  obtain ⟨r, hr, hbytes⟩ := rowOf_opcode i
  have hbuild : r.form.build lo hi = r.form.build ((encode i).getD 1 0) ((encode i).getD 2 0) :=
    Form.build_congr (fun h => by rw [hlo (by omega), List.getD_eq_getElem])
      (fun h => by rw [hhi (by omega), List.getD_eq_getElem])
  rw [← hdecode]
  simp only [decodeBytes, hr, Option.map_some, hbuild]

theorem opcode_eq_getElem (i : Instr) (h : 0 < (encode i).length) : i.opcode = (encode i)[0] := by
  rw [Instr.opcode, List.headD_eq_head?_getD, List.head?_eq_getElem?, List.getElem?_eq_getElem h, Option.getD_some]

namespace Machine

section atPc
variable {ex : Instr → State → Result} {s : State} {i : Instr}

theorem fetchInstr_of_code (hcode : ∀ n (h : n < (encode i).length), s.readByte (s.pc + BitVec.ofNat 16 n) = (encode i)[n]) :
    fetchInstr s = some i := by
  obtain ⟨r, -, hbytes⟩ := rowOf_opcode i
  have hop : s.readByte s.pc = i.opcode := by
    rw [opcode_eq_getElem i (by omega), ← hcode 0 (by omega), BitVec.add_zero]
  rw [fetchInstr, hop]
  exact decodeBytes_of_code (hcode 1) (hcode 2)

/-- A running core executes the instruction whose code stands at PC (R101, R103). -/
theorem stepBy_of_code (hrun : s.run = .running)
    (hcode : ∀ n (h : n < (encode i).length), s.readByte (s.pc + BitVec.ofNat 16 n) = (encode i)[n]) :
    stepBy ex s = ex i { s with pc := s.pc + BitVec.ofNat 16 i.size } :=
  stepBy_decoded hrun (fetchInstr_of_code hcode)

end atPc

end Machine

end Sys2Proof
end

section
/-! PROOF. The cycle table as an argument (00_scope.md R5). -/

namespace Sys2Proof.Machine

/-- Completion with a table: the default's next state, but for CYC, which takes the table's count and the same extra. -/
theorem execWith_eq_exec_but_cyc (table : BaseCycles) (i : Instr) (s : State) : ∃ (u : State) (extra : Nat),
    exec i s = .next u ∧ u.cyc = s.cyc + BitVec.ofNat 64 (baseCycles i.opcode + extra) ∧
    extra ≤ extraBound (extraRule i.opcode) ∧
    execWith table i s = .next { u with cyc := s.cyc + BitVec.ofNat 64 (table i.opcode + extra) } := by
  obtain ⟨v, extra, hv, hextra, he⟩ := exec_eq_account i s
  refine ⟨account (baseCycles i.opcode + extra) v, extra, he, ?_, hextra, ?_⟩
  · rw [account_cyc, hv.cyc]
  · rw [execWith_of_exec he, ← hv.cyc]
    rfl

/-- Settles O55: the instruction's retirement for the first part, the fetch of its code for the second, and the default in its own
place for the rest. -/
theorem cycleTableIsAnArgument : Obligations.CycleTableIsAnArgument := fun table =>
  ⟨execWith_eq_exec_but_cyc table, fun _ _ hrun hcode => stepBy_of_code hrun hcode, execWith_default, stepWith_default⟩

end Sys2Proof.Machine
end

section
/-! PROOF. What each instruction makes of the state before accounting, said once by mnemonic, and the frames that follow: which
instructions write which register, which flag of P, and memory (10_state.md R10 to R14, R19, R23). -/

namespace Sys2Proof.Machine

def branches : List Mnemonic := [.bcc, .bcs, .beq, .bne, .bmi, .bpl, .bvc, .bvs]
def shifts : List Mnemonic := [.asl, .lsr, .rol, .ror]

/-- The instructions that write one flag, with the flag. -/
def flagOps : List (Mnemonic × Flag) :=
  [(.sec, .c), (.clc, .c), (.sei, .i), (.cli, .i), (.sed, .d), (.cld, .d), (.clv, .v)]

/-- `Effect s md m u`: an instruction with mnemonic `m` and mode `md` may leave `u`, but for the counters, when it executes from
`s`. A result byte that no frame depends on is left open. -/
inductive Effect (s : State) (md : AddrMode) : Mnemonic → State → Prop
  | loadA {m} (h : m ∈ [.lda, .and, .ora, .eor, .txa, .tya]) (v : Byte) : Effect s md m (Machine.loadA v s)
  | loadX {m} (h : m ∈ [.ldx, .tax, .tsx, .inx, .dex]) (v : Byte) : Effect s md m (Machine.loadX v s)
  | loadY {m} (h : m ∈ [.ldy, .tay, .iny, .dey]) (v : Byte) : Effect s md m (Machine.loadY v s)
  | txs : Effect s md .txs ((s.setSp s.x).setP (setNZ s.x s.p))
  | adc (v : Byte) : Effect s md .adc (adcA v s)
  | sbc (v : Byte) : Effect s md .sbc (sbcA v s)
  | compare {m} (h : m ∈ [.cmp, .cpx, .cpy]) (reg v : Byte) : Effect s md m (s.setP (compareBytes reg v s.p))
  | bit (v : Byte) : Effect s md .bit (bitTestA v s)
  | store {m} (h : m ∈ [.sta, .stx, .sty]) (ea : Word) (v : Byte) : Effect s md m (s.writeByte ea v)
  | incDec {m} (h : m ∈ [.inc, .dec]) (ea : Word) (v : Byte) : Effect s md m ((s.writeByte ea v).setP (setNZ v s.p))
  | shiftMem {m} (h : m ∈ shifts) (hmd : md ≠ .acc) (ea : Word) (v : Byte) (c : Bool) :
      Effect s md m ((s.writeByte ea v).setP (setNZ v (setFlag .c c s.p)))
  | shiftAcc {m} (h : m ∈ shifts) (hmd : md = .acc) (v : Byte) (c : Bool) :
      Effect s md m ((s.setA v).setP (setNZ v (setFlag .c c s.p)))
  | goTo {m} (h : m ∈ .jmp :: branches) (target : Word) : Effect s md m (s.setPc target)
  | jsr (target : Word) : Effect s md .jsr (callSubroutine target s)
  | rts : Effect s md .rts (returnFromSubroutine s)
  | push {m} (h : m ∈ [.pha, .php]) (v : Byte) : Effect s md m (push8 v s)
  | pla : Effect s md .pla (Machine.loadA (pop8Value s) (pop8State s))
  | plp : Effect s md .plp ((pop8State s).setP (pop8Value s))
  | brk : Effect s md .brk (takeBreak s)
  | rti : Effect s md .rti (returnFromBreak s)
  | flag {m} (f : Flag) (b : Bool) (h : (m, f) ∈ flagOps) : Effect s md m (s.setP (setFlag f b s.p))
  | nop : Effect s md .nop s

/-- Every instruction answers its effect, accounted for. -/
theorem exec_effect (i : Instr) (s : State) :
    ∃ (n : Nat) (u : State), exec i s = .next (account n u) ∧ Effect s i.mode i.mnemonic u := by
  cases i with
  | ldaIzx _ | ldaZp _ | ldaImm _ | ldaAbs _ | ldaIzy _ | ldaZpx _ | ldaAby _ | ldaAbx _ | andIzx _ | andZp _ | andImm _
  | andAbs _ | andIzy _ | andZpx _ | andAby _ | andAbx _ | oraIzx _ | oraZp _ | oraImm _ | oraAbs _ | oraIzy _ | oraZpx _
  | oraAby _ | oraAbx _ | eorIzx _ | eorZp _ | eorImm _ | eorAbs _ | eorIzy _ | eorZpx _ | eorAby _ | eorAbx _ | txa | tya =>
    exact ⟨_, _, rfl, .loadA (by simp [Instr.mnemonic]) _⟩
  | ldxImm _ | ldxZp _ | ldxAbs _ | ldxZpy _ | ldxAby _ | tax | tsx | inx | dex =>
    exact ⟨_, _, rfl, .loadX (by simp [Instr.mnemonic]) _⟩
  | ldyImm _ | ldyZp _ | ldyAbs _ | ldyZpx _ | ldyAbx _ | tay | iny | dey =>
    exact ⟨_, _, rfl, .loadY (by simp [Instr.mnemonic]) _⟩
  | txs => exact ⟨_, _, rfl, .txs⟩
  | adcIzx _ | adcZp _ | adcImm _ | adcAbs _ | adcIzy _ | adcZpx _ | adcAby _ | adcAbx _ => exact ⟨_, _, rfl, .adc _⟩
  | sbcIzx _ | sbcZp _ | sbcImm _ | sbcAbs _ | sbcIzy _ | sbcZpx _ | sbcAby _ | sbcAbx _ => exact ⟨_, _, rfl, .sbc _⟩
  | cmpIzx _ | cmpZp _ | cmpImm _ | cmpAbs _ | cmpIzy _ | cmpZpx _ | cmpAby _ | cmpAbx _ | cpxImm _ | cpxZp _ | cpxAbs _
  | cpyImm _ | cpyZp _ | cpyAbs _ => exact ⟨_, _, rfl, .compare (by simp [Instr.mnemonic]) _ _⟩
  | bitZp _ | bitAbs _ => exact ⟨_, _, rfl, .bit _⟩
  | staIzx _ | staZp _ | staAbs _ | staIzy _ | staZpx _ | staAby _ | staAbx _ | stxZp _ | stxAbs _ | stxZpy _ | styZp _
  | styAbs _ | styZpx _ => exact ⟨_, _, rfl, .store (by simp [Instr.mnemonic]) _ _⟩
  | incZp _ | incAbs _ | incZpx _ | incAbx _ | decZp _ | decAbs _ | decZpx _ | decAbx _ =>
    exact ⟨_, _, rfl, .incDec (by simp [Instr.mnemonic]) _ _⟩
  | aslZp _ | aslAbs _ | aslZpx _ | aslAbx _ | lsrZp _ | lsrAbs _ | lsrZpx _ | lsrAbx _ | rolZp _ | rolAbs _ | rolZpx _
  | rolAbx _ | rorZp _ | rorAbs _ | rorZpx _ | rorAbx _ =>
    exact ⟨_, _, rfl, .shiftMem (by simp [Instr.mnemonic, shifts]) (by simp [Instr.mode]) _ _ _⟩
  | aslAcc | lsrAcc | rolAcc | rorAcc => exact ⟨_, _, rfl, .shiftAcc (by simp [Instr.mnemonic, shifts]) rfl _ _⟩
  | bcc _ | bcs _ | beq _ | bne _ | bmi _ | bpl _ | bvc _ | bvs _ =>
    exact ⟨_, _, branch_eq _ _ _ _, .goTo (by simp [Instr.mnemonic, branches]) _⟩
  | jmpAbs _ | jmpInd _ => exact ⟨_, _, rfl, .goTo (by simp [Instr.mnemonic]) _⟩
  | jsr _ => exact ⟨_, _, rfl, .jsr _⟩
  | rts => exact ⟨_, _, rfl, .rts⟩
  | pha | php => exact ⟨_, _, rfl, .push (by simp [Instr.mnemonic]) _⟩
  | pla => exact ⟨_, _, rfl, .pla⟩
  | plp => exact ⟨_, _, rfl, .plp⟩
  | brk => exact ⟨_, _, rfl, .brk⟩
  | rti => exact ⟨_, _, rfl, .rti⟩
  | sec | clc | sei | cli | sed | cld | clv => exact ⟨_, _, rfl, .flag _ _ (by simp [Instr.mnemonic, flagOps])⟩
  | nop => exact ⟨_, _, rfl, .nop⟩

/-- A state that exec answers is an effect with its counters advanced. -/
theorem effect_of_exec {i : Instr} {s t : State} (h : exec i s = .next t) :
    ∃ (n : Nat) (u : State), t = account n u ∧ Effect s i.mode i.mnemonic u := by
  obtain ⟨n, u, he, hu⟩ := exec_effect i s
  rw [he] at h
  cases h
  exact ⟨n, u, rfl, hu⟩

/-! The mnemonics that write each register, each flag of P, and memory outside the stack page. -/

def aWriters : List Mnemonic := [.lda, .and, .ora, .eor, .adc, .sbc, .txa, .tya, .pla]
def xWriters : List Mnemonic := [.ldx, .tax, .tsx, .inx, .dex]
def yWriters : List Mnemonic := [.ldy, .tay, .iny, .dey]
def spWriters : List Mnemonic := [.txs, .pha, .php, .pla, .plp, .jsr, .rts, .brk, .rti]
def pcWriters : List Mnemonic := [.bcc, .bcs, .beq, .bne, .bmi, .bpl, .bvc, .bvs, .jmp, .jsr, .rts, .rti, .brk]
def pushers : List Mnemonic := [.pha, .php, .jsr, .brk]
def storers : List Mnemonic := [.sta, .stx, .sty, .inc, .dec]

/-- The written-by column of the table of flags (10_state.md R19). -/
def flagWriters : Flag → List Mnemonic
  | .c => [.adc, .sbc, .cmp, .cpx, .cpy, .asl, .lsr, .rol, .ror, .sec, .clc, .plp, .rti]
  | .z | .n => [.lda, .ldx, .ldy, .and, .ora, .eor, .tax, .tay, .txa, .tya, .tsx, .txs, .adc, .sbc, .cmp, .cpx, .cpy, .inc, .dec,
      .inx, .iny, .dex, .dey, .asl, .lsr, .rol, .ror, .bit, .pla, .plp, .rti]
  | .i => [.sei, .cli, .brk, .plp, .rti]
  | .d => [.sed, .cld, .plp, .rti]
  | .b | .u => [.plp, .rti]
  | .v => [.adc, .sbc, .bit, .clv, .plp, .rti]

section frames
variable {s u : State} {md : AddrMode} {m : Mnemonic}

theorem Effect.a_eq (he : Effect s md m u) (hm : m ∉ aWriters) (hacc : ¬(m ∈ shifts ∧ md = .acc)) : u.a = s.a := by
  cases he with
  | loadA h => exact absurd ((by decide : _ ⊆ aWriters) h) hm
  | adc | sbc | pla => exact absurd (by decide) hm
  | shiftAcc h hmd => exact absurd ⟨h, hmd⟩ hacc
  | _ => rfl

theorem Effect.x_eq (he : Effect s md m u) (hm : m ∉ xWriters) : u.x = s.x := by
  cases he with
  | loadX h => exact absurd h hm
  | _ => rfl

theorem Effect.y_eq (he : Effect s md m u) (hm : m ∉ yWriters) : u.y = s.y := by
  cases he with
  | loadY h => exact absurd h hm
  | _ => rfl

theorem Effect.sp_eq (he : Effect s md m u) (hm : m ∉ spWriters) : u.sp = s.sp := by
  cases he with
  | txs | jsr | rts | pla | plp | brk | rti => exact absurd (by decide) hm
  | push h => exact absurd ((by decide : _ ⊆ spWriters) h) hm
  | _ => rfl

theorem Effect.pc_eq (he : Effect s md m u) (hm : m ∉ pcWriters) : u.pc = s.pc := by
  cases he with
  | goTo h => exact absurd ((by decide : _ ⊆ pcWriters) h) hm
  | jsr | rts | brk | rti => exact absurd (by decide) hm
  | _ => rfl

/-- Memory is written by a push or at an effective address. -/
theorem Effect.mem_eq (he : Effect s md m u) (hm : m ∉ storers ++ pushers) (hmem : ¬(m ∈ shifts ∧ md ≠ .acc)) :
    u.mem = s.mem := by
  cases he with
  | store h | incDec h | push h => exact absurd ((by decide : _ ⊆ storers ++ pushers) h) hm
  | shiftMem h hmd => exact absurd ⟨h, hmd⟩ hmem
  | jsr | brk => exact absurd (by decide) hm
  | _ => rfl

/-! A push writes no byte outside the stack page (10_state.md R13). -/

theorem ne_stackAddr {k : Word} (hk : k.toNat / 256 ≠ 1) (sp : Byte) : k ≠ stackAddr sp := by
  rintro rfl
  have := sp.isLt
  rw [stackAddr_toNat] at hk
  omega

theorem push8_readByte_outside (hwf : Memory.wf s.mem = true) {k : Word} (hk : k.toNat / 256 ≠ 1) (v : Byte) :
    (push8 v s).readByte k = s.readByte k := by
  rw [push8_readByte hwf, if_neg (ne_stackAddr hk _)]

theorem push16_readByte_outside (hwf : Memory.wf s.mem = true) {k : Word} (hk : k.toNat / 256 ≠ 1) (w : Word) :
    (push16 w s).readByte k = s.readByte k := by
  rw [push16, push8_readByte_outside (push8_wf hwf _) hk, push8_readByte_outside hwf hk]

theorem takeBreak_readByte_outside (hwf : Memory.wf s.mem = true) {k : Word} (hk : k.toNat / 256 ≠ 1) :
    (takeBreak s).readByte k = s.readByte k := by
  rw [takeBreak, State.setPc_readByte, State.setP_readByte, push8_readByte_outside (push16_wf hwf _) hk,
    push16_readByte_outside hwf hk]

/-- A byte outside the stack page is written at an effective address only. -/
theorem Effect.readByte_outside (he : Effect s md m u) (hwf : Memory.wf s.mem = true) {k : Word} (hk : k.toNat / 256 ≠ 1)
    (hm : m ∉ storers ++ shifts) : u.readByte k = s.readByte k := by
  cases he with
  | store h | incDec h | shiftMem h => exact absurd ((by decide : _ ⊆ storers ++ shifts) h) hm
  | push => exact push8_readByte_outside hwf hk _
  | jsr => exact push16_readByte_outside hwf hk _
  | brk => exact takeBreak_readByte_outside hwf hk
  | _ => rfl

/-! The flags of P (10_state.md R19). -/

/-- From status `p` to status `q` no flag is written but those whose writers `m` is among. -/
def FlagFrame (m : Mnemonic) (p q : Byte) : Prop := ∀ f, m ∉ flagWriters f → getFlag f q = getFlag f p

theorem FlagFrame.setFlag {p q : Byte} {f : Flag} {b : Bool} (h : FlagFrame m p q) (hf : m ∈ flagWriters f) :
    FlagFrame m p (setFlag f b q) := by
  intro g hg
  have hne : g ≠ f := fun e => hg (e ▸ hf)
  rw [getFlag_setFlag, if_neg hne]
  exact h g hg

theorem FlagFrame.setNZ {p q v : Byte} (h : FlagFrame m p q) (hm : m ∈ flagWriters .z) : FlagFrame m p (setNZ v q) :=
  (h.setFlag hm).setFlag (f := .n) hm

theorem FlagFrame.withCznv {p r : Byte} {c z n v : Bool} (hc : m ∈ flagWriters .c) (hz : m ∈ flagWriters .z)
    (hv : m ∈ flagWriters .v) : FlagFrame m p (withCznv r c z n v p).p :=
  (((FlagFrame.setFlag (fun _ _ => rfl) hc).setFlag hz).setFlag (f := .n) hz).setFlag hv

theorem adc_flagFrame (a v p : Byte) : FlagFrame .adc p (adc a v p).p := by
  unfold adc
  split <;> exact .withCznv (by decide) (by decide) (by decide)

theorem sbc_flagFrame (a v p : Byte) : FlagFrame .sbc p (sbc a v p).p := by
  unfold sbc
  split <;> exact .withCznv (by decide) (by decide) (by decide)

theorem bitTest_flagFrame (a v p : Byte) : FlagFrame .bit p (bitTest a v p) :=
  ((FlagFrame.setFlag (fun _ _ => rfl) (by decide)).setFlag (by decide)).setFlag (by decide)

/-- PLP and RTI may write any flag. -/
theorem flagFrame_of_mem {p q : Byte} (hm : m ∈ flagWriters .b) : FlagFrame m p q := by
  intro f hf
  exact absurd ((by cases f <;> decide : flagWriters .b ⊆ flagWriters f) hm) hf

theorem Effect.flagFrame (he : Effect s md m u) : FlagFrame m s.p u.p := by
  have kept : FlagFrame m s.p s.p := fun _ _ => rfl
  cases he with
  | loadA h | loadX h | loadY h | incDec h => exact kept.setNZ ((by decide : _ ⊆ flagWriters .z) h)
  | txs | pla => exact kept.setNZ (by decide)
  | adc v => exact adc_flagFrame s.a v s.p
  | sbc v => exact sbc_flagFrame s.a v s.p
  | compare h | shiftMem h | shiftAcc h =>
    exact (kept.setFlag ((by decide : _ ⊆ flagWriters .c) h)).setNZ ((by decide : _ ⊆ flagWriters .z) h)
  | bit v => exact bitTest_flagFrame s.a v s.p
  | plp | rti => exact flagFrame_of_mem (by decide)
  | brk => exact kept.setFlag (by decide)
  | flag f b h =>
    have hf : ∀ w ∈ flagOps, w.1 ∈ flagWriters w.2 := by decide
    exact kept.setFlag (hf _ h)
  | _ => exact kept

end frames

/-- Settles O42, register by register of the effect. -/
theorem onlyListedInstructionsWriteTheRegisters : Obligations.OnlyListedInstructionsWriteTheRegisters := by
  intro i s t h
  obtain ⟨n, u, rfl, he⟩ := effect_of_exec h
  exact ⟨he.a_eq, he.x_eq, he.y_eq, he.sp_eq, he.pc_eq⟩

/-- Settles O43, flag by flag of the effect. -/
theorem onlyListedInstructionsWriteTheFlags : Obligations.OnlyListedInstructionsWriteTheFlags := by
  intro i s t h
  obtain ⟨n, u, rfl, he⟩ := effect_of_exec h
  have hf := he.flagFrame
  exact ⟨hf .c, fun hm => ⟨hf .z hm, hf .n hm⟩, hf .i, hf .d, fun hm => ⟨hf .b hm, hf .u hm⟩, hf .v⟩

/-- Settles O44: the list of cells for the first part, the bytes outside the stack page for the second. -/
theorem onlyListedInstructionsWriteMemory : Obligations.OnlyListedInstructionsWriteMemory := by
  intro i s t hwf h
  obtain ⟨n, u, rfl, he⟩ := effect_of_exec h
  have hpush : ∀ m ∈ pushers, m ∉ storers ++ shifts := by decide
  exact ⟨fun hm hmem k => congrArg (Memory.read · k.toNat) (he.mem_eq hm hmem),
    fun hm k hk => he.readByte_outside hwf hk (hpush _ hm)⟩

/-- Settles O12: memory is empty after power-on, and Reset keeps what it holds. -/
theorem resetMemoryIsCanonical : Obligations.ResetMemoryIsCanonical :=
  ⟨reset_memory_wf, fun _ _ _ _ _ _ _ hwf => hwf⟩

end Sys2Proof.Machine
end

section
/-! PROOF. Bits of P that no instruction reads: executing with other values of them changes nothing but them
(10_state.md R17, R19). -/

namespace Sys2Proof.Machine

/-- The status bytes `p` and `q` agree in every bit outside the mask `k`. -/
def SameOff (k p q : Byte) : Prop := q ||| k = p ||| k

/-- The mask has none of the flags an instruction computes or branches with: the read-by column of R19 lists pushes only, or
nothing, for I, B and U. -/
structure Unread (k : Byte) : Prop where
  c : getFlag .c k = false
  z : getFlag .z k = false
  d : getFlag .d k = false
  v : getFlag .v k = false
  n : getFlag .n k = false

section status
variable {k p q : Byte}

theorem sameOff_iff : SameOff k p q ↔ ∀ j < 8, k.getLsbD j = false → q.getLsbD j = p.getLsbD j := by
  constructor
  · intro h j _ hkj
    simpa [hkj] using congrArg (BitVec.getLsbD · j) h
  · intro h
    apply BitVec.eq_of_getLsbD_eq
    intro j hj
    cases hkj : k.getLsbD j with
    | false => simp [hkj, h j hj hkj]
    | true => simp [hkj]

theorem SameOff.getFlag {f : Flag} (h : SameOff k p q) (hf : getFlag f k = false) : getFlag f q = getFlag f p :=
  sameOff_iff.mp h f.bit (by cases f <;> decide) hf

theorem SameOff.setFlag (h : SameOff k p q) (f : Flag) (b : Bool) : SameOff k (setFlag f b p) (setFlag f b q) := by
  refine sameOff_iff.mpr fun j hj hkj => ?_
  rw [setFlag_getLsbD _ _ _ _ hj, setFlag_getLsbD _ _ _ _ hj, sameOff_iff.mp h j hj hkj]

theorem SameOff.setNZ (h : SameOff k p q) (v : Byte) : SameOff k (setNZ v p) (setNZ v q) := (h.setFlag _ _).setFlag _ _

/-- A push of status forces B and U (10_state.md R18). -/
theorem SameOff.stackedP (h : SameOff k p q) (hk : k ||| 0x30 = 0x30) : stackedP q = stackedP p := by
  have hforced (x : Byte) : Machine.stackedP x = (x ||| k) ||| 0x30 := by rw [BitVec.or_assoc, hk]; rfl
  rw [hforced, hforced, h]

end status

/-- A computation on a byte and the status: where the statuses agree off the mask, it answers the same byte and statuses that
agree off the mask. -/
def IgnoresMask (k : Byte) (f : Byte → Byte → ByteAndStatus) : Prop :=
  ∀ (v p q : Byte), SameOff k p q → (f v q).value = (f v p).value ∧ SameOff k (f v p).p (f v q).p

section computations
variable {k : Byte}

theorem increment_ignoresMask : IgnoresMask k increment := fun _ _ _ h => ⟨rfl, h.setNZ _⟩
theorem decrement_ignoresMask : IgnoresMask k decrement := fun _ _ _ h => ⟨rfl, h.setNZ _⟩
theorem shiftLeft_ignoresMask : IgnoresMask k shiftLeft := fun _ _ _ h => ⟨rfl, (h.setFlag _ _).setNZ _⟩
theorem shiftRight_ignoresMask : IgnoresMask k shiftRight := fun _ _ _ h => ⟨rfl, (h.setFlag _ _).setNZ _⟩

theorem withCznv_ignoresMask {r : Byte} {c z n v : Bool} : IgnoresMask k fun _ p => withCznv r c z n v p :=
  fun _ _ _ h => ⟨rfl, (((h.setFlag _ _).setFlag _ _).setFlag _ _).setFlag _ _⟩

variable (hk : Unread k)
include hk

theorem rotateLeft_ignoresMask : IgnoresMask k rotateLeft := by
  intro v p q h
  simp only [rotateLeft, h.getFlag hk.c, true_and]
  exact (h.setFlag _ _).setNZ _

theorem rotateRight_ignoresMask : IgnoresMask k rotateRight := by
  intro v p q h
  simp only [rotateRight, h.getFlag hk.c, true_and]
  exact (h.setFlag _ _).setNZ _

theorem adc_ignoresMask (a : Byte) : IgnoresMask k (adc a) := by
  intro v p q h
  simp only [adc, adcBinary, ofDecResult, h.getFlag hk.c, h.getFlag hk.d]
  split <;> exact withCznv_ignoresMask v p q h

theorem sbc_ignoresMask (a : Byte) : IgnoresMask k (sbc a) := by
  intro v p q h
  simp only [sbc, sbcBinary, ofDecResult, h.getFlag hk.c, h.getFlag hk.d]
  split <;> exact withCznv_ignoresMask v p q h

end computations

/-- Two states that differ at most in the bits of P in the mask. -/
def SameButStatus (k : Byte) (s t : State) : Prop := t = s.setP t.p ∧ SameOff k s.p t.p

/-- Two results of the same count whose states differ at most in the bits of P in the mask. -/
def AnswersAlike (k : Byte) (r r' : Result) : Prop :=
  ∃ (n : Nat) (u u' : State), r = .next (account n u) ∧ r' = .next (account n u') ∧ SameButStatus k u u'

section alike
variable {k q : Byte} {s : State} {f : Byte → Byte → ByteAndStatus} (h : SameOff k s.p q)
include h

theorem setA_alike (hf : IgnoresMask k f) (v : Byte) :
    SameButStatus k ((s.setA (f v s.p).value).setP (f v s.p).p) (((s.setP q).setA (f v q).value).setP (f v q).p) := by
  obtain ⟨hv, hp⟩ := hf v s.p q h
  exact ⟨by rw [hv]; rfl, hp⟩

theorem rmwMem_alike (hf : IgnoresMask k f) (op : Byte) (r : Resolved) :
    AnswersAlike k (rmwMem op f r s) (rmwMem op f r (s.setP q)) := by
  obtain ⟨hv, hp⟩ := hf (s.readByte r.ea) s.p q h
  refine ⟨_, _, _, rmwMem_eq op f r s, rmwMem_eq op f r (s.setP q), ?_, hp⟩
  simp only [State.setP_readByte, State.setP_p, hv]
  rfl

/-- A branch is taken by one flag that is off the mask, or by its complement. -/
theorem branch_alike {cond cond' : Bool} (hc : cond' = cond) (op disp : Byte) :
    AnswersAlike k (branch op cond disp s) (branch op cond' disp (s.setP q)) := by
  rw [hc]
  exact ⟨_, _, _, branch_eq op cond disp s, branch_eq op cond disp (s.setP q), rfl, h⟩

theorem push8_stackedP_alike (hk : k ||| 0x30 = 0x30) :
    SameButStatus k (push8 (stackedP s.p) s) (push8 (stackedP q) (s.setP q)) :=
  ⟨by rw [h.stackedP hk]; rfl, h⟩

theorem takeBreak_alike (hk : k ||| 0x30 = 0x30) : SameButStatus k (takeBreak s) (takeBreak (s.setP q)) := by
  refine ⟨?_, h.setFlag .i true⟩
  simp only [takeBreak, State.setP_p, h.stackedP hk]
  rfl

/-- No instruction reads the bits of P in the mask: PHP and BRK push them, unless they are the two forced ones (R18). -/
theorem exec_alike (i : Instr) (hk : Unread k) (hpush : i.mnemonic ∈ [.php, .brk] → k ||| 0x30 = 0x30) :
    AnswersAlike k (exec i s) (exec i (s.setP q)) := by
  cases i with
  | ldaIzx _ | ldaZp _ | ldaImm _ | ldaAbs _ | ldaIzy _ | ldaZpx _ | ldaAby _ | ldaAbx _ | andIzx _ | andZp _ | andImm _
  | andAbs _ | andIzy _ | andZpx _ | andAby _ | andAbx _ | oraIzx _ | oraZp _ | oraImm _ | oraAbs _ | oraIzy _ | oraZpx _
  | oraAby _ | oraAbx _ | eorIzx _ | eorZp _ | eorImm _ | eorAbs _ | eorIzy _ | eorZpx _ | eorAby _ | eorAbx _ | txa | tya
  | ldxImm _ | ldxZp _ | ldxAbs _ | ldxZpy _ | ldxAby _ | tax | tsx | inx | dex
  | ldyImm _ | ldyZp _ | ldyAbs _ | ldyZpx _ | ldyAbx _ | tay | iny | dey | txs | pla =>
    exact ⟨_, _, _, rfl, rfl, rfl, h.setNZ _⟩
  | adcIzx _ | adcZp _ | adcImm _ | adcAbs _ | adcIzy _ | adcZpx _ | adcAby _ | adcAbx _ =>
    exact ⟨_, _, _, rfl, rfl, setA_alike h (adc_ignoresMask hk s.a) _⟩
  | sbcIzx _ | sbcZp _ | sbcImm _ | sbcAbs _ | sbcIzy _ | sbcZpx _ | sbcAby _ | sbcAbx _ =>
    exact ⟨_, _, _, rfl, rfl, setA_alike h (sbc_ignoresMask hk s.a) _⟩
  | cmpIzx _ | cmpZp _ | cmpImm _ | cmpAbs _ | cmpIzy _ | cmpZpx _ | cmpAby _ | cmpAbx _ | cpxImm _ | cpxZp _ | cpxAbs _
  | cpyImm _ | cpyZp _ | cpyAbs _ => exact ⟨_, _, _, rfl, rfl, rfl, (h.setFlag _ _).setNZ _⟩
  | bitZp _ | bitAbs _ => exact ⟨_, _, _, rfl, rfl, rfl, ((h.setFlag _ _).setFlag _ _).setFlag _ _⟩
  | incZp _ | incAbs _ | incZpx _ | incAbx _ => exact rmwMem_alike h increment_ignoresMask _ _
  | decZp _ | decAbs _ | decZpx _ | decAbx _ => exact rmwMem_alike h decrement_ignoresMask _ _
  | aslZp _ | aslAbs _ | aslZpx _ | aslAbx _ => exact rmwMem_alike h shiftLeft_ignoresMask _ _
  | lsrZp _ | lsrAbs _ | lsrZpx _ | lsrAbx _ => exact rmwMem_alike h shiftRight_ignoresMask _ _
  | rolZp _ | rolAbs _ | rolZpx _ | rolAbx _ => exact rmwMem_alike h (rotateLeft_ignoresMask hk) _ _
  | rorZp _ | rorAbs _ | rorZpx _ | rorAbx _ => exact rmwMem_alike h (rotateRight_ignoresMask hk) _ _
  | aslAcc => exact ⟨_, _, _, rfl, rfl, setA_alike h shiftLeft_ignoresMask _⟩
  | lsrAcc => exact ⟨_, _, _, rfl, rfl, setA_alike h shiftRight_ignoresMask _⟩
  | rolAcc => exact ⟨_, _, _, rfl, rfl, setA_alike h (rotateLeft_ignoresMask hk) _⟩
  | rorAcc => exact ⟨_, _, _, rfl, rfl, setA_alike h (rotateRight_ignoresMask hk) _⟩
  | bcs _ => exact branch_alike h (h.getFlag hk.c) _ _
  | beq _ => exact branch_alike h (h.getFlag hk.z) _ _
  | bmi _ => exact branch_alike h (h.getFlag hk.n) _ _
  | bvs _ => exact branch_alike h (h.getFlag hk.v) _ _
  | bcc _ => exact branch_alike h (congrArg not (h.getFlag hk.c)) _ _
  | bne _ => exact branch_alike h (congrArg not (h.getFlag hk.z)) _ _
  | bpl _ => exact branch_alike h (congrArg not (h.getFlag hk.n)) _ _
  | bvc _ => exact branch_alike h (congrArg not (h.getFlag hk.v)) _ _
  | staIzx _ | staZp _ | staAbs _ | staIzy _ | staZpx _ | staAby _ | staAbx _ | stxZp _ | stxAbs _ | stxZpy _ | styZp _
  | styAbs _ | styZpx _ | jmpAbs _ | jmpInd _ | jsr _ | rts | pha | nop => exact ⟨_, _, _, rfl, rfl, rfl, h⟩
  | php => exact ⟨_, _, _, rfl, rfl, push8_stackedP_alike h (hpush (by decide))⟩
  | brk => exact ⟨_, _, _, rfl, rfl, takeBreak_alike h (hpush (by decide))⟩
  | plp | rti => exact ⟨_, _, _, rfl, rfl, rfl, rfl⟩
  | sec | clc | sei | cli | sed | cld | clv => exact ⟨_, _, _, rfl, rfl, rfl, h.setFlag _ _⟩

end alike

/-- Settles O46: no instruction reads the two bits, and a push of status forces them. -/
theorem breakAndUnusedAffectNothing : Obligations.BreakAndUnusedAffectNothing := by
  intro i s
  have hsame : SameOff 0x30 s.p (s.p ||| 0x30) := by rw [SameOff, BitVec.or_assoc, BitVec.or_self]
  obtain ⟨n, u, u', hr, hr', hu, hp⟩ := exec_alike hsame i ⟨rfl, rfl, rfl, rfl, rfl⟩ fun _ => rfl
  refine ⟨account n u, account n u', hr, hr', ?_⟩
  rw [hu]
  exact ⟨rfl, rfl, rfl, rfl, rfl, hp⟩

end Sys2Proof.Machine
end

section
/-! PROOF. Memory: every step keeps the canonical form, the form is determined by what memory reads as, and the primitives and Load
write the bytes they name and no other (20_memory.md R40 to R45, R59). -/

namespace Sys2Proof.Machine

open Sys2Proof.Claims

/-! ### The canonical form -/

/-- Memory after an effect is the memory before it, or that with bytes stored or pushed. -/
theorem Effect.mem_wf {s u : State} {md : AddrMode} {m : Mnemonic} (he : Effect s md m u) (hwf : Memory.wf s.mem = true) :
    Memory.wf u.mem = true := by
  cases he with
  | store | incDec | shiftMem => exact State.writeByte_wf hwf _ _
  | push => exact push8_wf hwf _
  | jsr => exact push16_wf hwf _
  | brk => exact takeBreak_wf hwf
  | _ => exact hwf

/-- Executing an instruction keeps memory in canonical form. -/
theorem exec_mem_wf {i : Instr} {s t : State} (hwf : Memory.wf s.mem = true) (h : exec i s = .next t) :
    Memory.wf t.mem = true := by
  obtain ⟨n, u, rfl, he⟩ := effect_of_exec h
  exact he.mem_wf hwf

/-- What a step answers: a stopped core rests, an illegal byte halts a running one, and an instruction executes with PC past it. -/
theorem step_cases {s t : State} (h : step s = .next t) :
    (∃ r, s.run = .stopped r ∧ t = s) ∨ (s.run = .running ∧ fetchInstr s = none ∧ t = haltIllegal s) ∨
      ∃ i, s.run = .running ∧ fetchInstr s = some i ∧ exec i (advancePc i s) = .next t := by
  cases hrun : s.run with
  | stopped r =>
    rw [step_stopped hrun] at h
    cases h
    exact .inl ⟨r, rfl, rfl⟩
  | running =>
    cases hf : fetchInstr s with
    | none =>
      rw [step_undecoded hrun hf] at h
      cases h
      exact .inr (.inl ⟨rfl, rfl, rfl⟩)
    | some i =>
      rw [step_decoded hrun hf] at h
      exact .inr (.inr ⟨i, rfl, rfl, h⟩)

/-- Settles O11: resting and halting leave memory alone, and the advance of PC before an instruction does too. -/
theorem stepKeepsMemoryCanonical : Obligations.StepKeepsMemoryCanonical := by
  intro s t hwf h
  obtain ⟨-, -, rfl⟩ | ⟨-, -, rfl⟩ | ⟨i, -, -, he⟩ := step_cases h
  · exact hwf
  · exact hwf
  · exact exec_mem_wf (s := advancePc i s) hwf he

/-- Canonical memories of two states that read alike at every address are equal. -/
theorem State.mem_eq_of_readByte_eq {s t : State} (hs : Memory.wf s.mem = true) (ht : Memory.wf t.mem = true)
    (h : ∀ a : Word, s.readByte a = t.readByte a) : s.mem = t.mem := by
  refine Memory.ext_from hs ht fun n hn => ?_
  have hread := h (BitVec.ofNat 16 n)
  rwa [State.readByte, State.readByte, BitVec.toNat_ofNat, Nat.mod_eq_of_lt hn] at hread

/-- Settles O13: the registers field by field, memory by what it reads as. -/
theorem canonicalMemoriesThatReadAlikeAreEqual : Obligations.CanonicalMemoriesThatReadAlikeAreEqual := by
  intro s t hs ht hregs hp hcyc hins hrun hread
  have hmem := State.mem_eq_of_readByte_eq hs ht hread
  obtain ⟨ha, hx, hy, hsp, hpc⟩ := Regs.mk.inj hregs
  cases s
  cases t
  rw [State.mk.injEq]
  exact ⟨ha, hx, hy, hsp, hpc, hp, hcyc, hins, hrun, hmem⟩

/-! ### The byte, word and bit primitives -/

/-- The byte a list of stored bytes leaves at an address: the first entry decides. -/
theorem lookup_cons_getD (k a : Word) (v d : Byte) (stored : List (Word × Byte)) :
    (((k, v) :: stored).lookup a).getD d = if a = k then v else (stored.lookup a).getD d := by
  by_cases h : a = k
  · simp [h]
  · rw [List.lookup_cons, beq_false_of_ne h, if_neg h]

section primitives
variable {s : State} (hwf : Memory.wf s.mem = true) (a : Word)
include hwf

theorem State.writeByte_readByte_of_ne {b : Word} (hb : b ≠ a) (v : Byte) : (s.writeByte a v).readByte b = s.readByte b := by
  rw [State.writeByte_readByte hwf, if_neg hb]

theorem State.writeByte_memoryAfter (v : Byte) : MemoryAfter [(a, v)] s (s.writeByte a v) := fun b => by
  rw [State.writeByte_readByte hwf, lookup_cons_getD]
  rfl

/-- The two addresses of a word differ, also at 0xFFFF, so the order of the two stores does not show. -/
theorem State.writeWord_memoryAfter (w : Word) : MemoryAfter [(a, lo8 w), (a + 1, hi8 w)] s (s.writeWord a w) := fun b => by
  rw [State.writeWord, State.writeByte_readByte (State.writeByte_wf hwf _ _), State.writeByte_readByte hwf, lookup_cons_getD,
    lookup_cons_getD]
  by_cases hb : b = a
  · have hne : a ≠ a + 1 := by bv_omega
    rw [hb, if_neg hne, if_pos rfl, if_pos rfl]
  · rw [if_neg hb, if_neg hb]
    rfl

theorem State.setBit_getLsbD (i : Fin 8) {k : Nat} (hk : k < 8) :
    ((s.setBit a i).readByte a).getLsbD k = (decide (k = i.val) || (s.readByte a).getLsbD k) := by
  rw [State.setBit, State.writeByte_readByte hwf, if_pos rfl]
  simp [hk, Bool.or_comm]

theorem State.clearBit_getLsbD (i : Fin 8) {k : Nat} (hk : k < 8) :
    ((s.clearBit a i).readByte a).getLsbD k = (!decide (k = i.val) && (s.readByte a).getLsbD k) := by
  rw [State.clearBit, State.writeByte_readByte hwf, if_pos rfl]
  simp [hk, Bool.and_comm]

end primitives

/-- Settles O14, primitive by primitive: reading a word joins its two bytes, and a bit is written by writing its byte. -/
theorem memoryPrimitives : Obligations.MemoryPrimitives := fun _ a w v i hwf =>
  ⟨State.writeByte_memoryAfter hwf a v, joinBytes_toNat _ _, State.writeWord_memoryAfter hwf a w, rfl,
    fun _ hb => ⟨State.writeByte_readByte_of_ne hwf a hb _, State.writeByte_readByte_of_ne hwf a hb _⟩,
    fun _ hk => State.setBit_getLsbD hwf a i hk, fun _ hk => State.clearBit_getLsbD hwf a i hk, rfl, rfl, rfl⟩

/-! ### Load -/

/-- The addresses of a list's bytes after the first are counted from the next address. -/
theorem add_ofNat_succ (a : Word) (n : Nat) : a + BitVec.ofNat 16 (n + 1) = a + 1 + BitVec.ofNat 16 n := by
  rw [Nat.add_comm, BitVec.ofNat_add, BitVec.add_assoc]
  rfl

/-- Fewer than 65,536 further addresses do not come round to the first. -/
theorem ne_add_ofNat_succ (a : Word) {n : Nat} (hn : n + 1 < 65536) : a ≠ a + BitVec.ofNat 16 (n + 1) := by
  bv_omega

/-- Load leaves every address that is none of the list's as it was (R59). -/
theorem State.load_readByte_outside {s : State} (hwf : Memory.wf s.mem = true) {a b : Word} {bs : List Byte}
    (h : ∀ n, n < bs.length → b ≠ a + BitVec.ofNat 16 n) : (s.load a bs).readByte b = s.readByte b := by
  induction bs generalizing s a with
  | nil => rfl
  | cons c bs ih =>
    have hfirst : b ≠ a := by simpa using h 0 (Nat.zero_lt_succ _)
    have hrest : ∀ n, n < bs.length → b ≠ a + 1 + BitVec.ofNat 16 n := fun n hn =>
      add_ofNat_succ a n ▸ h (n + 1) (Nat.succ_lt_succ hn)
    rw [State.load, ih (State.writeByte_wf hwf _ _) hrest, State.writeByte_readByte_of_ne hwf a hfirst]

/-- Load places byte `n` at `a + n`; the bytes after it do not come round to it (R59). -/
theorem State.load_readByte {s : State} (hwf : Memory.wf s.mem = true) {a : Word} {bs : List Byte} (hlen : bs.length ≤ 65536)
    {n : Nat} (hn : n < bs.length) : (s.load a bs).readByte (a + BitVec.ofNat 16 n) = bs[n] := by
  induction bs generalizing s a n with
  | nil => exact absurd hn (Nat.not_lt_zero n)
  | cons c bs ih =>
    rw [List.length_cons] at hlen hn
    have hwf' := State.writeByte_wf hwf a c
    rw [State.load]
    cases n with
    | zero =>
      have hout : ∀ k, k < bs.length → a ≠ a + 1 + BitVec.ofNat 16 k := fun k hk =>
        add_ofNat_succ a k ▸ ne_add_ofNat_succ a (by omega)
      rw [BitVec.add_zero, State.load_readByte_outside hwf' hout, State.writeByte_readByte hwf, if_pos rfl]
      rfl
    | succ n =>
      rw [add_ofNat_succ]
      exact ih hwf' (by omega) (by omega)

/-- Load writes nothing but memory. -/
theorem State.load_setMem (s : State) (a : Word) (bs : List Byte) : (s.load a bs).setMem s.mem = s := by
  induction bs generalizing s a with
  | nil => rfl
  | cons c bs ih =>
    calc (s.load a (c :: bs)).setMem s.mem
      _ = (((s.writeByte a c).load (a + 1) bs).setMem (s.writeByte a c).mem).setMem s.mem := rfl
      _ = (s.writeByte a c).setMem s.mem := congrArg (State.setMem s.mem) (ih (s.writeByte a c) (a + 1))
      _ = s := rfl

/-- Settles O51: the bytes placed, the addresses outside, and the fields other than memory. -/
theorem loadPlacesTheBytes : Obligations.LoadPlacesTheBytes := fun s a bs hwf hlen =>
  ⟨fun _ hn => State.load_readByte hwf hlen hn, fun _ h => State.load_readByte_outside hwf h, State.load_setMem s a bs⟩

end Sys2Proof.Machine
end

section
/-! PROOF. Decoding and encoding are inverse to each other (30_encoding.md R70 to R77): the instruction a row builds has the row's
byte and its operand bytes as its code, and the decoder takes just these bytes off a list. -/

namespace Sys2Proof

/-! ### The code of the instruction a row builds -/

/-- The code a format gives an opcode byte and the two bytes after it (30_encoding.md R70). -/
def Form.code (f : Form) (op lo hi : Byte) : List Byte :=
  match f with
  | .f1 _ => [op]
  | .f2 _ => codeF2 op lo
  | .f3 _ => codeF3 op (joinBytes hi lo)

/-- A format's code is the opcode byte and, of the two bytes after it, those the format reads. -/
theorem Form.code_eq (f : Form) (op lo hi : Byte) : f.code op lo hi = op :: [lo, hi].take f.operandBytes := by
  cases f with
  | f1 i => rfl
  | f2 mk => rfl
  | f3 mk =>
    rw [Form.code, codeF3, lo8_joinBytes, hi8_joinBytes]
    rfl

/-- A list that is long enough begins with the bytes a format reads. -/
theorem Form.exists_operands (f : Form) {bs : List Byte} (hbs : f.operandBytes ≤ bs.length) :
    ∃ lo hi rest, bs = [lo, hi].take f.operandBytes ++ rest :=
  match f, bs, hbs with
  | .f1 _, rest, _ => ⟨0, 0, rest, rfl⟩
  | .f2 _, lo :: rest, _ => ⟨lo, 0, rest, rfl⟩
  | .f3 _, lo :: hi :: rest, _ => ⟨lo, hi, rest, rfl⟩

/-- The encoder agrees with the table, one line of the matrix at a time (30_encoding.md R75, R76). -/
theorem opcodeRows_encode_build (h : Nat) (lo hi : Byte) :
    (opcodeRows h).map (fun r => encode (r.form.build lo hi)) = (opcodeRows h).map fun r => r.form.code r.code lo hi := by
  unfold opcodeRows
  split <;> rfl

section row
variable {op : Byte} {r : OpRow} (hr : rowOf op = some r)
include hr

theorem rowOf_code : r.code = op := by
  simpa using List.find?_some hr

theorem encode_build (lo hi : Byte) : encode (r.form.build lo hi) = op :: [lo, hi].take r.form.operandBytes := by
  have hline := List.map_inj_left.mp (opcodeRows_encode_build (op.toNat / 16) lo hi)
  rw [hline r (List.mem_of_find?_eq_some hr), rowOf_code hr, Form.code_eq]

/-! ### What the decoder answers to an opcode byte -/

theorem decode_operands_append (lo hi : Byte) (rest : List Byte) :
    decode (op :: ([lo, hi].take r.form.operandBytes ++ rest)) = .ok (r.form.build lo hi) rest := by
  cases hf : r.form <;> simp [decode, hr, hf, Form.operandBytes, Form.build]

theorem decode_truncated {bs : List Byte} (hbs : bs.length < r.form.operandBytes) : decode (op :: bs) = .truncated op := by
  match hf : r.form, bs with
  | .f2 _, [] | .f3 _, [] | .f3 _, [_] => simp [decode, hr, hf]
  | .f1 _, _ | .f2 _, _ :: _ | .f3 _, _ :: _ :: _ => simp [hf, Form.operandBytes] at hbs

end row

theorem decode_of_rowOf_none {op : Byte} (hr : rowOf op = none) (bs : List Byte) : decode (op :: bs) = .illegalOpcode op := by
  simp [decode, hr]

theorem decodeBytes_eq_none_iff (op lo hi : Byte) : decodeBytes op lo hi = none ↔ rowOf op = none :=
  Option.map_eq_none_iff

/-- What decodes is an opcode byte with a row, the operand bytes of what the row builds, and the rest. -/
theorem decode_eq_ok {bs rest : List Byte} {i : Instr} (h : decode bs = .ok i rest) :
    ∃ op r lo hi, rowOf op = some r ∧ i = r.form.build lo hi ∧ bs = op :: ([lo, hi].take r.form.operandBytes ++ rest) := by
  cases bs with
  | nil => cases h
  | cons op bs =>
    cases hr : rowOf op with
    | none =>
      rw [decode_of_rowOf_none hr] at h
      cases h
    | some r =>
      rcases Nat.lt_or_ge bs.length r.form.operandBytes with hshort | hlong
      · rw [decode_truncated hr hshort] at h
        cases h
      · obtain ⟨lo, hi, rest', rfl⟩ := r.form.exists_operands hlong
        rw [decode_operands_append hr] at h
        cases h
        exact ⟨op, r, lo, hi, hr, rfl, rfl⟩

/-! ### The code of any instruction -/

/-- Every instruction is what the row of its opcode byte builds from the operand bytes of its code. -/
theorem exists_row_build (i : Instr) : ∃ r lo hi, rowOf i.opcode = some r ∧ r.form.build lo hi = i ∧
    encode i = i.opcode :: [lo, hi].take r.form.operandBytes := by
  obtain ⟨-, -, -, hdecode⟩ := Laws.CodeForm.statement i
  obtain ⟨r, hr, hbuild⟩ := Option.map_eq_some_iff.mp hdecode
  refine ⟨r, _, _, hr, hbuild, ?_⟩
  rw [← encode_build hr, hbuild]

/-- Settles O1: the decoder takes the operand bytes the row of the opcode byte reads, and builds the instruction from them. -/
theorem decodeOfEncodeGivesInstruction : Obligations.DecodeOfEncodeGivesInstruction := by
  intro i rest
  obtain ⟨r, lo, hi, hr, hbuild, hcode⟩ := exists_row_build i
  rw [hcode, List.cons_append, decode_operands_append hr, hbuild]

/-- Settles O2: the decoder builds by the row, and what a row builds has the row's byte and the operand bytes as its code. -/
theorem decodedBytesAreTheCode : Obligations.DecodedBytesAreTheCode := by
  intro bs i rest h
  obtain ⟨op, r, lo, hi, hr, rfl, rfl⟩ := decode_eq_ok h
  rw [encode_build hr, List.cons_append]

/-- The length of well-formed code follows from its first byte (30_encoding.md R73). -/
theorem length_of_wellFormedCode {op : Byte} {operands : List Byte} (h : wellFormedCode (op :: operands) = true) :
    (op :: operands).length = codeLength op := by
  simp only [wellFormedCode, Bool.and_eq_true, beq_iff_eq] at h
  exact h.2

theorem encode_length_eq_codeLength (i : Instr) : (encode i).length = codeLength i.opcode := by
  obtain ⟨hwf, -⟩ := Laws.CodeForm.statement i
  obtain ⟨r, lo, hi, -, -, hcode⟩ := exists_row_build i
  rw [hcode] at hwf ⊢
  exact length_of_wellFormedCode hwf

/-- No proper part of a code decodes (30_encoding.md R70). -/
theorem decode_take_encode {i : Instr} {n : Nat} (hn : n < (encode i).length) :
    decode ((encode i).take n) = .empty ∨ decode ((encode i).take n) = .truncated i.opcode := by
  obtain ⟨r, lo, hi, hr, -, hcode⟩ := exists_row_build i
  rw [hcode] at hn ⊢
  cases n with
  | zero => exact .inl rfl
  | succ n =>
    refine .inr (decode_truncated hr ?_)
    simp only [List.length_cons, List.length_take] at hn ⊢
    omega

/-- Settles O4: the size and the well-formed code are the law of each constructor, the opcode byte and the proper parts follow. -/
theorem codeLengthIsTheModeSize : Obligations.CodeLengthIsTheModeSize := by
  intro i
  obtain ⟨hwf, hsize, -⟩ := Laws.CodeForm.statement i
  rw [← hsize]
  exact ⟨rfl, encode_length_eq_codeLength i, hwf, fun _ => decode_take_encode⟩

/-! ### The bytes that spell no instruction -/

/-- The list of R77 and the table divide the 256 bytes between them. -/
theorem illegalOpcodes_eq : illegalOpcodes = (List.range 256).filter fun n => (rowOf (BitVec.ofNat 8 n)).isNone := by
  decide

theorem rowOf_eq_none_iff (op : Byte) : rowOf op = none ↔ op.toNat ∈ illegalOpcodes := by
  rw [illegalOpcodes_eq, List.mem_filter, List.mem_range, BitVec.ofNat_toNat, BitVec.setWidth_eq, Option.isNone_iff_eq_none]
  exact (and_iff_right op.isLt).symm

/-- Settles O3: a byte decodes to nothing when it has no row, and the bytes without a row are those of the list. -/
theorem listedBytesSpellNoInstruction : Obligations.ListedBytesSpellNoInstruction :=
  ⟨fun op lo hi => (decodeBytes_eq_none_iff op lo hi).trans (rowOf_eq_none_iff op), rfl,
    fun op bs h => decode_of_rowOf_none ((rowOf_eq_none_iff op).mpr h) bs⟩

/-- Settles O5: ten lists of bytes run through the decoder. -/
theorem sampleWordsDecode : Obligations.SampleWordsDecode := by
  unfold Obligations.SampleWordsDecode
  decide

end Sys2Proof
end

section
/-! PROOF. A step and an executed instruction always answer a next state, and the counters advance (40_step_and_addressing.md R100
to R103, R118 to R123). -/

namespace Sys2Proof.Machine

/-- Settles O6: the bytes at PC are fetched as the instruction whose code they are. -/
theorem stepRunsTheDecodedInstruction : Obligations.StepRunsTheDecodedInstruction :=
  fun _ _ hrun hcode => stepBy_of_code hrun hcode

/-- Settles O10: an instruction ends with an effect that keeps the counters and RUN, accounted for. -/
theorem everyInstructionCompletesAndIsCounted : Obligations.EveryInstructionCompletesAndIsCounted := by
  intro i s
  obtain ⟨v, extra, hv, hextra, he⟩ := exec_eq_account i s
  refine ⟨account (baseCycles i.opcode + extra) v, extra, he, hv.run, ?_, ?_, hextra⟩
  · rw [account_ins, hv.ins]
  · rw [account_cyc, hv.cyc]

/-- Nothing is fetched exactly when the byte at PC is one of the 105 (40_step_and_addressing.md R102). -/
theorem fetchInstr_eq_none_iff (s : State) : fetchInstr s = none ↔ (s.readByte s.pc).toNat ∈ illegalOpcodes :=
  (decodeBytes_eq_none_iff _ _ _).trans (rowOf_eq_none_iff _)

/-- Settles O9, by the three cases of a step: a stopped core rests, an illegal byte halts, an instruction completes. -/
theorem stepAlwaysAnswersANextState : Obligations.StepAlwaysAnswersANextState := by
  intro s
  cases hrun : s.run with
  | stopped r => exact ⟨s, step_stopped hrun, fun h => nomatch h⟩
  | running =>
    cases hf : fetchInstr s with
    | none => exact ⟨haltIllegal s, step_undecoded hrun hf, fun _ => .inr ⟨(fetchInstr_eq_none_iff s).mp hf, rfl⟩⟩
    | some i =>
      obtain ⟨t, _, he, hrun', hins, -⟩ := everyInstructionCompletesAndIsCounted i (advancePc i s)
      exact ⟨t, (step_decoded hrun hf).trans he, fun _ => .inl ⟨hrun'.trans hrun, hins⟩⟩

end Sys2Proof.Machine
end

section
/-! PROOF. The stack helpers in terms of the bytes of page 1 (40_step_and_addressing.md R125 to R128). -/

namespace Sys2Proof.Machine

open Sys2Proof.Claims

theorem stackByte_eq (sp : Byte) : stackByte sp = stackAddr sp := by
  apply BitVec.eq_of_toNat_eq
  have := sp.isLt
  rw [stackAddr_toNat, stackByte, BitVec.toNat_ofNat]
  omega

theorem byte_sub_one_sub_one (b : Byte) : b - 1 - 1 = b - 2 := by bv_omega

theorem byte_add_one_add_one (b : Byte) : b + 1 + 1 = b + 2 := by bv_omega

theorem pop8Value_eq (s : State) : pop8Value s = s.readByte (stackByte (s.sp + 1)) := by rw [stackByte_eq]; rfl

theorem pop16State_eq (s : State) : pop16State s = s.setSp (s.sp + 2) := by
  rw [← byte_add_one_add_one]
  rfl

/-- The high byte is popped last (R128). -/
theorem pop16Value_eq (s : State) :
    pop16Value s = joinBytes (s.readByte (stackByte (s.sp + 2))) (s.readByte (stackByte (s.sp + 1))) := by
  rw [pop16Value, pop8Value_eq, pop8Value_eq, pop8State_readByte, pop8State_sp, byte_add_one_add_one]

theorem regsOf_push16 (w : Word) (s : State) : regsOf (push16 w s) = { regsOf s with sp := s.sp - 2 } := by
  rw [← byte_sub_one_sub_one]
  rfl

section pushes
variable {s : State} (hwf : Memory.wf s.mem = true)
include hwf

theorem push8_memoryAfter (v : Byte) : MemoryAfter [(stackByte s.sp, v)] s (push8 v s) := by
  rw [stackByte_eq]
  exact State.writeByte_memoryAfter hwf _ v

/-- The two addresses of a word pushed differ, also where SP wraps, so the order of the two stores does not show (R127). -/
theorem push16_memoryAfter (w : Word) :
    MemoryAfter [(stackByte s.sp, hi8 w), (stackByte (s.sp - 1), lo8 w)] s (push16 w s) := by
  intro b
  rw [stackByte_eq, stackByte_eq, push16_readByte hwf, lookup_cons_getD, lookup_cons_getD]
  have hne : stackAddr s.sp ≠ stackAddr (s.sp - 1) := by
    rw [Ne, stackAddr_inj]
    bv_omega
  by_cases hb : b = stackAddr s.sp
  · rw [hb, if_neg hne, if_pos rfl, if_pos rfl]
  · rw [if_neg hb, if_neg hb]
    rfl

end pushes

/-- Settles O15: the bytes a push stores, the word a pop joins, and SP; every other field is kept by definition. -/
theorem stackHelpers : Obligations.StackHelpers := fun s v w hwf =>
  ⟨push8_memoryAfter hwf v, rfl, pop8Value_eq s, rfl, push16_memoryAfter hwf w, regsOf_push16 w s, rfl, rfl, rfl, rfl, rfl, rfl,
    rfl, rfl, pop16Value_eq s ▸ joinBytes_toNat _ _, pop16State_eq s⟩

end Sys2Proof.Machine
end

section
/-! PROOF. The columns of the opcode table (30_encoding.md R75): every instruction has the mode, the mnemonic, the base count and the
extra of its row, so that a claim about which instructions have which of them is a finite claim about the rows. -/

namespace Sys2Proof

open Sys2Proof.Claims

/-- The mnemonic column: that of what the row builds, whatever the operand. -/
def OpRow.mnemonic (r : OpRow) : Mnemonic := (r.form.build 0 0).mnemonic

/-- The instructions of one line of the matrix have the columns of their rows, whatever the operand bytes. -/
theorem opcodeRows_build_columns (h : Nat) (lo hi : Byte) :
    (opcodeRows h).map (fun r => ((r.form.build lo hi).mode, (r.form.build lo hi).mnemonic)) =
      (opcodeRows h).map fun r => (r.mode, r.mnemonic) := by
  unfold opcodeRows
  split <;> rfl

theorem OpRow.build_columns {h : Nat} {r : OpRow} (hr : r ∈ opcodeRows h) (lo hi : Byte) :
    (r.form.build lo hi).mode = r.mode ∧ (r.form.build lo hi).mnemonic = r.mnemonic :=
  Prod.mk.inj (List.map_inj_left.mp (opcodeRows_build_columns h lo hi) r hr)

/-- Every instruction has its mode and its mnemonic from the row of its opcode byte. -/
theorem exists_row_columns (i : Instr) :
    ∃ h < 16, ∃ r ∈ opcodeRows h, rowOf i.opcode = some r ∧ i.mode = r.mode ∧ i.mnemonic = r.mnemonic := by
  obtain ⟨r, lo, hi, hrow, hbuild, -⟩ := exists_row_build i
  have hr := List.mem_of_find?_eq_some hrow
  exact ⟨_, Nat.div_lt_of_lt_mul i.opcode.isLt, r, hr, hrow, hbuild ▸ r.build_columns hr lo hi⟩

theorem baseCycles_of_rowOf {op : Byte} {r : OpRow} (h : rowOf op = some r) : baseCycles op = r.base := by
  rw [baseCycles, h]
  rfl

theorem extraRule_of_rowOf {op : Byte} {r : OpRow} (h : rowOf op = some r) : extraRule op = r.extra := by
  rw [extraRule, h]
  rfl

/-! ### Which mnemonics have a mode -/

/-- The mnemonics of the rows with a mode. -/
def rowMnemonics (mode : AddrMode) : List Mnemonic :=
  (List.range 16).flatMap fun h => ((opcodeRows h).filter (·.mode = mode)).map (·.mnemonic)

theorem mem_rowMnemonics {mode : AddrMode} {m : Mnemonic} :
    m ∈ rowMnemonics mode ↔ ∃ i : Instr, i.mode = mode ∧ i.mnemonic = m := by
  simp only [rowMnemonics, List.mem_flatMap, List.mem_range, List.mem_map, List.mem_filter, decide_eq_true_eq]
  constructor
  · rintro ⟨h, -, r, ⟨hr, rfl⟩, rfl⟩
    exact ⟨r.form.build 0 0, r.build_columns hr 0 0⟩
  · rintro ⟨i, rfl, rfl⟩
    obtain ⟨h, hh, r, hr, -, hmode, hmnemonic⟩ := exists_row_columns i
    exact ⟨h, hh, r, ⟨hr, hmode.symm⟩, hmnemonic.symm⟩

/-- The mnemonics that have a mode are those of the mode's rows. -/
theorem usedBy_of_rows {mode : AddrMode} {ms : List Mnemonic} (h : rowMnemonics mode ⊆ ms ∧ ms ⊆ rowMnemonics mode) :
    UsedBy mode ms :=
  ⟨fun i hi => h.1 (mem_rowMnemonics.mpr ⟨i, hi, rfl⟩), fun _ hm => mem_rowMnemonics.mp (h.2 hm)⟩

/-- Indirect is a mode of JMP and of no other (40_step_and_addressing.md R115). -/
theorem usedBy_ind : UsedBy .ind [.jmp] := usedBy_of_rows (by decide)

/-- Settles O16, mode by mode from the rows of the table. -/
theorem modesWithoutAnAddress : Obligations.ModesWithoutAnAddress :=
  ⟨usedBy_of_rows (by decide), usedBy_of_rows (by decide), usedBy_of_rows (by decide), usedBy_of_rows (by decide), usedBy_ind,
    rfl, rfl, rfl, rfl⟩

/-! ### The cycle columns -/

/-- Which rows have which extra (40_step_and_addressing.md R119, 92_eei_decisions.md D29). -/
theorem opcodeRows_extra : ∀ h < 16, ∀ r ∈ opcodeRows h,
    (r.extra = .pageCross ↔
      r.mode ∈ [AddrMode.abx, .aby, .izy] ∧ r.mnemonic ∈ [Mnemonic.lda, .ldx, .ldy, .and, .ora, .eor, .adc, .sbc, .cmp]) ∧
    (r.extra = .branch ↔ r.mode = .rel) := by
  decide

/-- The counts the source states, and the bounds of every count (30_encoding.md R75). -/
theorem opcodeRows_base : ∀ h < 16, ∀ r ∈ opcodeRows h,
    (r.mode = .rel → r.base = 2) ∧ (r.mode = .izx → r.base = 6) ∧ (r.mnemonic = .lda → r.mode = .imm → r.base = 2) ∧
    2 ≤ r.base ∧ r.base ≤ 7 := by
  decide

/-- Settles O48: each clause is one about the columns of the instruction's row. -/
theorem pageCrossCycleRows : Obligations.PageCrossCycleRows := by
  intro i
  obtain ⟨h, hh, r, hr, hrow, hmode, hmnemonic⟩ := exists_row_columns i
  obtain ⟨hcross, hbranch⟩ := opcodeRows_extra h hh r hr
  rw [extraRule_of_rowOf hrow, baseCycles_of_rowOf hrow, hmode, hmnemonic]
  exact ⟨hcross, hbranch, opcodeRows_base h hh r hr⟩

end Sys2Proof
end

section
/-! PROOF. The addressing modes as numbers (40_step_and_addressing.md R109 to R117, R129), and the mnemonics that have each. -/

namespace Sys2Proof.Machine

/-! ### Zero page and absolute -/

/-- The index sum wraps within page 0 (R110). -/
theorem zpx_ea_toNat (nn : Byte) (s : State) : (zpx nn s).ea.toNat = (nn.toNat + s.x.toNat) % 256 := by
  rw [zpx, uncrossed_ea, zext16_toNat, BitVec.toNat_add]

theorem zpy_ea_toNat (nn : Byte) (s : State) : (zpy nn s).ea.toNat = (nn.toNat + s.y.toNat) % 256 := by
  rw [zpy, uncrossed_ea, zext16_toNat, BitVec.toNat_add]

/-- Settles O17: the three addresses as numbers, and the rows of the three modes. -/
theorem zeroPageAddresses : Obligations.ZeroPageAddresses := fun s nn =>
  ⟨zext16_toNat nn, rfl, zpx_ea_toNat nn s, rfl, zpy_ea_toNat nn s, rfl, usedBy_of_rows (by decide),
    usedBy_of_rows (by decide), usedBy_of_rows (by decide)⟩

/-- A page is crossed exactly when the sum is in another page than the base (R113). -/
theorem indexed_crossed_iff (base : Word) (index : Byte) :
    (indexed base index).crossed = true ↔ (indexed base index).ea.toNat / 256 ≠ base.toNat / 256 := by
  rw [indexed_crossed, Bool.not_eq_true', decide_eq_false_iff_not]

/-- Settles O18: both indexed modes add their register to the word, and the rows of the three modes. -/
theorem absoluteAddresses : Obligations.AbsoluteAddresses := fun s w =>
  ⟨rfl, rfl, indexed_ea w s.x, indexed_crossed_iff w s.x, indexed_ea w s.y, indexed_crossed_iff w s.y,
    usedBy_of_rows (by decide), usedBy_of_rows (by decide), usedBy_of_rows (by decide)⟩

/-! ### Indirect -/

theorem indirect_ea (w : Word) (s : State) :
    (indirect w s).ea = joinBytes (s.readByte (jmpPointerHigh w)) (s.readByte w) := rfl

theorem jmpPointerHigh_eq (w : Word) :
    jmpPointerHigh w = BitVec.ofNat 16 (w.toNat / 256 * 256 + (w.toNat % 256 + 1) % 256) := by
  rw [← jmpPointerHigh_toNat, BitVec.ofNat_toNat, BitVec.setWidth_eq]

/-- Below the end of its page the pointer is a plain word (R115). -/
theorem jmpPointerHigh_of_ne {w : Word} (h : w.toNat % 256 ≠ 255) : jmpPointerHigh w = w + 1 := by
  apply BitVec.eq_of_toNat_eq
  have := w.isLt
  rw [jmpPointerHigh_toNat, BitVec.toNat_add, show (1 : Word).toNat = 1 from rfl]
  omega

/-- At the end of its page the pointer continues at the page's first byte (R115). -/
theorem jmpPointerHigh_of_eq {w : Word} (h : w.toNat % 256 = 255) : jmpPointerHigh w = BitVec.ofNat 16 (w.toNat - 255) := by
  have hnat : w.toNat / 256 * 256 + (w.toNat % 256 + 1) % 256 = w.toNat - 255 := by omega
  rw [jmpPointerHigh_eq, hnat]

/-- Settles O19, by where the pointer's second byte is. -/
theorem indirectPointerStaysInItsPage : Obligations.IndirectPointerStaysInItsPage := by
  intro s w
  rw [indirect_ea]
  refine ⟨?_, rfl, fun h => ?_, fun h => ?_, usedBy_ind⟩
  · rw [joinBytes_toNat, jmpPointerHigh_eq]
  · rw [jmpPointerHigh_of_ne h, State.readWord]
  · rw [jmpPointerHigh_of_eq h]

/-! ### Zero-page pointers -/

theorem zext16_eq_ofNat (b : Byte) : zext16 b = BitVec.ofNat 16 b.toNat := by
  rw [← zext16_toNat, BitVec.ofNat_toNat, BitVec.setWidth_eq]

/-- Below 0xFF the pointer is a plain word (R129). -/
theorem readZpPointer_of_ne {z : Byte} (h : z ≠ 0xFF) (s : State) :
    readZpPointer z s = s.readWord (BitVec.ofNat 16 z.toNat) := by
  rw [readZpPointer, zpPointerHigh_of_ne h, zext16_eq_ofNat, State.readWord]

theorem zpPointerHigh_wrap16 (h : Config.zpPointerWrap = .wrap16) : zpPointerHigh 0xFF = 0x0100 := by
  rw [zpPointerHigh, if_pos rfl, h]

theorem zpPointerHigh_wrap8 (h : Config.zpPointerWrap = .wrap8) : zpPointerHigh 0xFF = 0x0000 := by
  rw [zpPointerHigh, if_pos rfl, h]

theorem readZpPointer_0xFF (s : State) :
    readZpPointer 0xFF s = joinBytes (s.readByte (zpPointerHigh 0xFF)) (s.readByte 0x00FF) := rfl

/-- Settles O20: the pointer by where its second byte is, for both settings; (Indirect),Y is an indexed mode whose base is the
pointer. -/
theorem zeroPagePointers : Obligations.ZeroPagePointers := by
  intro s nn
  refine ⟨fun h => readZpPointer_of_ne h s, fun h => ?_, fun h => ?_, rfl, rfl, indexed_ea _ s.y, indexed_crossed_iff _ s.y,
    usedBy_of_rows (by decide), usedBy_of_rows (by decide)⟩
  · rw [readZpPointer_0xFF, zpPointerHigh_wrap16 h]
  · rw [readZpPointer_0xFF, zpPointerHigh_wrap8 h]

end Sys2Proof.Machine
end

section
/-! PROOF. From the state an instruction leaves before accounting to the statement of its result: its registers, the bits of P it
wrote, the bytes it stored, and its counters (40_step_and_addressing.md R118 to R121, R124). -/

namespace Sys2Proof.Machine

open Sys2Proof.Claims

section results
variable {s u : State} {i : Instr} {code : List Byte} {v : Byte} {n : Nat}

/-- An instruction leaves what its effect leaves: accounting moves the two counters and nothing else. -/
theorem leaves_of_account {regs : Regs} {written : List (Nat × Bool)} {stored : List (Word × Byte)}
    (he : exec i s = .next (account n u)) (hregs : regsOf u = regs) (hp : StatusAfter written s u) (hmem : MemoryAfter stored s u)
    (hc : SameCounters s u) : Leaves s i regs written stored n := by
  refine ⟨account n u, he, hregs, hp, hmem, ?_, ?_, hc.run⟩
  · rw [account_cyc, hc.cyc]
  · rw [account_ins, hc.ins]

theorem statusAfter_nil (h : u.p = s.p) : StatusAfter [] s u := fun k _ => congrArg (BitVec.getLsbD · k) h

theorem memoryAfter_nil (h : u.mem = s.mem) : MemoryAfter [] s u := fun a => congrArg (Memory.read · a.toNat) h

/-- SetNZ writes the bits 1 and 7 of P and no other (R124). -/
theorem statusAfter_setNZ (h : u.p = setNZ v s.p) : StatusAfter (nzBits v) s u := by
  intro k hk
  rw [h, setNZ_getLsbD _ _ _ hk]
  by_cases hz : k = 1
  · subst hz
    rfl
  · by_cases hn : k = 7
    · subst hn
      rfl
    · simp [nzBits, List.lookup_cons, beq_false_of_ne hz, beq_false_of_ne hn, hz, hn]

/-! ### A register loaded, a byte stored -/

theorem loadsA_of_exec (hcode : encode i = code) (he : exec i s = .next (account n (loadA v s))) : LoadsA s i code v n :=
  ⟨hcode, leaves_of_account he rfl (statusAfter_setNZ rfl) (memoryAfter_nil rfl) ⟨rfl, rfl, rfl⟩⟩

theorem loadsX_of_exec (hcode : encode i = code) (he : exec i s = .next (account n (loadX v s))) : LoadsX s i code v n :=
  ⟨hcode, leaves_of_account he rfl (statusAfter_setNZ rfl) (memoryAfter_nil rfl) ⟨rfl, rfl, rfl⟩⟩

theorem loadsY_of_exec (hcode : encode i = code) (he : exec i s = .next (account n (loadY v s))) : LoadsY s i code v n :=
  ⟨hcode, leaves_of_account he rfl (statusAfter_setNZ rfl) (memoryAfter_nil rfl) ⟨rfl, rfl, rfl⟩⟩

theorem storesAt_of_exec {ea : Word} (hwf : Memory.wf s.mem = true) (hcode : encode i = code)
    (he : exec i s = .next (account n (s.writeByte ea v))) : StoresAt s i code ea v n :=
  ⟨hcode, leaves_of_account he rfl (statusAfter_nil rfl) (State.writeByte_memoryAfter hwf ea v) ⟨rfl, rfl, rfl⟩⟩

end results

end Sys2Proof.Machine
end

section
/-! PROOF. The loads, the logic instructions, the transfers and the stores (41_load_transfer_logic_store.md R140 to R154). The code
of a form, the effect it executes and the count of its row are read off the model by computation; what that effect leaves is the
rule of a register loaded or a byte stored. -/

namespace Sys2Proof.Machine

open Sys2Proof.Claims

/-- Settles O21: every form loads its register with the operand byte. -/
theorem loadForms : Obligations.LoadForms := by
  intro s nn w
  refine ⟨?ldaIzx, ?ldaZp, ?ldaImm, ?ldaAbs, ?ldaIzy, ?ldaZpx, ?ldaAby, ?ldaAbx, ?ldxImm, ?ldxZp, ?ldxAbs, ?ldxZpy, ?ldxAby,
    ?ldyImm, ?ldyZp, ?ldyAbs, ?ldyZpx, ?ldyAbx⟩
  case ldaIzx | ldaZp | ldaImm | ldaAbs | ldaIzy | ldaZpx | ldaAby | ldaAbx => exact loadsA_of_exec rfl rfl
  case ldxImm | ldxZp | ldxAbs | ldxZpy | ldxAby => exact loadsX_of_exec rfl rfl
  case ldyImm | ldyZp | ldyAbs | ldyZpx | ldyAbx => exact loadsY_of_exec rfl rfl

/-- Settles O22: every form loads A, with the bitwise result of A and the operand byte. -/
theorem logicForms : Obligations.LogicForms := by
  intro s nn w
  refine ⟨?andIzx, ?andZp, ?andImm, ?andAbs, ?andIzy, ?andZpx, ?andAby, ?andAbx, ?oraIzx, ?oraZp, ?oraImm, ?oraAbs, ?oraIzy,
    ?oraZpx, ?oraAby, ?oraAbx, ?eorIzx, ?eorZp, ?eorImm, ?eorAbs, ?eorIzy, ?eorZpx, ?eorAby, ?eorAbx⟩
  case andIzx | andZp | andImm | andAbs | andIzy | andZpx | andAby | andAbx => exact loadsA_of_exec (v := s.a &&& _) rfl rfl
  case oraIzx | oraZp | oraImm | oraAbs | oraIzy | oraZpx | oraAby | oraAbx => exact loadsA_of_exec (v := s.a ||| _) rfl rfl
  case eorIzx | eorZp | eorImm | eorAbs | eorIzy | eorZpx | eorAby | eorAbx => exact loadsA_of_exec (v := s.a ^^^ _) rfl rfl

/-- TXS writes SP, and Z and N too, as this block fixes TXS_UPDATES_NZ (R151). -/
theorem txs_leaves (s : State) : Leaves s .txs { regsOf s with sp := s.x } (nzBits s.x) [] 2 :=
  leaves_of_account (u := (s.setSp s.x).setP (setNZ s.x s.p)) rfl rfl (statusAfter_setNZ rfl) (memoryAfter_nil rfl)
    ⟨rfl, rfl, rfl⟩

/-- Settles O23: five transfers load a register with another, and TXS loads SP. -/
theorem transferForms : Obligations.TransferForms := fun s =>
  ⟨loadsX_of_exec rfl rfl, loadsY_of_exec rfl rfl, loadsA_of_exec rfl rfl, loadsA_of_exec rfl rfl, loadsX_of_exec rfl rfl,
    rfl, txs_leaves s⟩

/-- Settles O24: every form stores its register at the effective address, and its row allows no extra cycle. -/
theorem storeForms : Obligations.StoreForms := by
  intro s nn w hwf
  refine ⟨?staIzx, ?staZp, ?staAbs, ?staIzy, ?staZpx, ?staAby, ?staAbx, ?stxZp, ?stxAbs, ?stxZpy, ?styZp, ?styAbs, ?styZpx⟩
  case staIzx | staZp | staAbs | staIzy | staZpx | staAby | staAbx => exact storesAt_of_exec (v := s.a) hwf rfl rfl
  case stxZp | stxAbs | stxZpy => exact storesAt_of_exec (v := s.x) hwf rfl rfl
  case styZp | styAbs | styZpx => exact storesAt_of_exec (v := s.y) hwf rfl rfl

end Sys2Proof.Machine
end

section
/-! PROOF. ADC, SBC and the compares (42_arithmetic_compare.md R160 to R165). What `adc` and `sbc` compute is what the statements
say they write, in each mode of P.D; binary SBC is ADC of the complement, so the signed range test is proved of ADC alone. -/

namespace Sys2Proof.Machine

open Sys2Proof.Claims

/-! ### Bytes as unsigned and as signed numbers -/

theorem bit01_eq_toNat (b : Bool) : bit01 b = b.toNat := by cases b <;> rfl

theorem bit7_eq_decide (b : Byte) : bit7 b = decide (128 ≤ b.toNat) := (b.msb_eq_getLsbD_last).symm.trans b.msb_eq_decide

theorem signed8_eq_ite (b : Byte) : signed8 b = if bit7 b = true then (b.toNat : Int) - 256 else b.toNat := by
  rw [signed8, BitVec.toInt_eq_msb_cond, BitVec.msb_eq_getLsbD_last]
  rfl

theorem ofNat8_mod (n : Nat) : BitVec.ofNat 8 (n % 256) = BitVec.ofNat 8 n :=
  BitVec.eq_of_toNat_eq (by rw [BitVec.toNat_ofNat, BitVec.toNat_ofNat, Nat.mod_mod])

theorem ofInt8_eq_ofNat8 (n : Int) : BitVec.ofInt 8 n = BitVec.ofNat 8 (n % 256).toNat :=
  BitVec.eq_of_toNat_eq (by rw [BitVec.toNat_ofInt, BitVec.toNat_ofNat]; omega)

theorem complement_toNat (b : Byte) : (b ^^^ 0xFF).toNat = 255 - b.toNat :=
  (congrArg BitVec.toNat BitVec.xor_allOnes).trans BitVec.toNat_not

theorem bit7_complement (b : Byte) : bit7 (b ^^^ 0xFF) = !bit7 b := by
  simp [bit7]

theorem signed8_complement (b : Byte) : signed8 (b ^^^ 0xFF) = -1 - signed8 b := by
  have hlt := b.isLt
  rw [signed8_eq_ite, signed8_eq_ite, complement_toNat, bit7_complement]
  cases bit7 b with
  | false => simp only [Bool.not_false, if_true, Bool.false_eq_true, if_false]; omega
  | true => simp only [Bool.not_true, if_true, Bool.false_eq_true, if_false]; omega

theorem and_0x80_ne_zero_iff (b : Byte) : b &&& 0x80 ≠ 0 ↔ bit7 b = true := by
  have hand : b &&& 0x80 = if bit7 b = true then 0x80 else 0 := b.and_twoPow 7
  rw [hand]
  cases bit7 b <;> decide

/-! ### Signed overflow -/

/-- V of a binary addition: the operands have one sign and the result the other (R160). -/
def overflows (a m r : Byte) : Bool := bit7 a == bit7 m && bit7 r != bit7 a

/-- The exclusive-or form of V (R160). -/
theorem overflows_iff_xor (a m r : Byte) : overflows a m r = true ↔ (a ^^^ r) &&& (m ^^^ r) &&& 0x80 ≠ 0 := by
  have hbits : bit7 ((a ^^^ r) &&& (m ^^^ r)) = ((bit7 a ^^ bit7 r) && (bit7 m ^^ bit7 r)) := by
    simp only [bit7, BitVec.getLsbD_and, BitVec.getLsbD_xor]
  have hsigns : ∀ x y z : Bool, (x == y && z != x) = ((x ^^ z) && (y ^^ z)) := by decide
  rw [and_0x80_ne_zero_iff, hbits, overflows, hsigns]

/-- The signed range test of V (R160). -/
theorem overflows_iff_range (a m : Byte) (c : Bool) :
    overflows a m (BitVec.ofNat 8 (a.toNat + m.toNat + c.toNat)) = true ↔
      signed8 a + signed8 m + (c.toNat : Int) < -128 ∨ 127 < signed8 a + signed8 m + (c.toNat : Int) := by
  have ha := a.isLt
  have hm := m.isLt
  have hc := c.toNat_lt
  simp only [overflows, signed8_eq_ite, bit7_eq_decide, BitVec.toNat_ofNat, Bool.and_eq_true, beq_iff_eq, bne_iff_ne, ne_eq,
    decide_eq_decide, decide_eq_true_eq]
  split <;> split <;> omega

/-! ### What the statements say ADC and SBC write, in the model's terms -/

/-- The unsigned sum of binary ADC (R160). -/
def binarySum (s : State) (m : Byte) : Nat := s.a.toNat + m.toNat + (s.p.getLsbD 0).toNat

/-- The unsigned difference of binary SBC (R161). -/
def binaryDiff (s : State) (m : Byte) : Int := s.a.toNat - m.toNat - (1 - (s.p.getLsbD 0).toNat)

/-- A result with its carry and overflow, and Z and N from it, in the order of the binary outcomes. -/
def binaryOutcome (r : Byte) (c v : Bool) : Byte × List (Nat × Bool) := (r, [(0, c), (6, v), (1, r == 0), (7, bit7 r)])

/-- The five results of a decimal function, in the order of the decimal outcomes. -/
def decimalOutcome (q : DecResult) : Byte × List (Nat × Bool) := (q.r, [(0, q.c), (1, q.z), (7, q.n), (6, q.v)])

section outcomes
variable {s : State} (m : Byte)

theorem adcOutcome_binary (hd : s.p.getLsbD 3 = false) : adcOutcome s m =
    binaryOutcome (BitVec.ofNat 8 (binarySum s m)) (decide (255 < binarySum s m))
      (overflows s.a m (BitVec.ofNat 8 (binarySum s m))) := by
  simp only [adcOutcome, if_pos hd, ofNat8_mod, Bool.decide_and, ne_eq, decide_not]
  rfl

theorem sbcOutcome_binary (hd : s.p.getLsbD 3 = false) : sbcOutcome s m =
    binaryOutcome (BitVec.ofInt 8 (binaryDiff s m)) (decide (0 ≤ binaryDiff s m))
      (bit7 s.a != bit7 m && bit7 (BitVec.ofInt 8 (binaryDiff s m)) != bit7 s.a) := by
  simp only [sbcOutcome, if_pos hd, ofInt8_eq_ofNat8, Bool.decide_and, ne_eq, decide_not]
  rfl

theorem adcOutcome_decimal (hd : s.p.getLsbD 3 = true) :
    adcOutcome s m = decimalOutcome (Config.decAdc s.a m (s.p.getLsbD 0)) := by
  rw [adcOutcome, if_neg (by simp [hd])]
  rfl

theorem sbcOutcome_decimal (hd : s.p.getLsbD 3 = true) :
    sbcOutcome s m = decimalOutcome (Config.decSbc s.a m (s.p.getLsbD 0)) := by
  rw [sbcOutcome, if_neg (by simp [hd])]
  rfl

/-- The difference is the sum with the complement, less 256, so no borrow is a carry (R161). -/
theorem binaryDiff_eq_binarySum_complement : binaryDiff s m = (binarySum s (m ^^^ 0xFF) : Int) - 256 := by
  have := m.isLt
  rw [binaryDiff, binarySum, complement_toNat]
  omega

/-- Binary SBC is ADC of the complement (R161). -/
theorem sbcOutcome_eq_adcOutcome_complement (hd : s.p.getLsbD 3 = false) : sbcOutcome s m = adcOutcome s (m ^^^ 0xFF) := by
  have hr : BitVec.ofInt 8 (binaryDiff s m) = BitVec.ofNat 8 (binarySum s (m ^^^ 0xFF)) := by
    rw [ofInt8_eq_ofNat8, ← ofNat8_mod (binarySum _ _), binaryDiff_eq_binarySum_complement]
    congr 1
    omega
  have hc : (0 ≤ binaryDiff s m) ↔ 255 < binarySum s (m ^^^ 0xFF) := by
    rw [binaryDiff_eq_binarySum_complement]
    omega
  have hsign : ∀ x y : Bool, (x == !y) = (x != y) := by decide
  rw [sbcOutcome_binary m hd, adcOutcome_binary _ hd, overflows, hr, bit7_complement, hsign, decide_eq_decide.mpr hc]

/-- V of binary ADC is signed overflow. -/
theorem adcOutcome_overflow (hd : s.p.getLsbD 3 = false) :
    (adcOutcome s m).2.lookup 6 = some true ↔ overflows s.a m (BitVec.ofNat 8 (binarySum s m)) = true := by
  rw [adcOutcome_binary m hd]
  exact Option.some_inj

/-- V of binary ADC as exclusive-or form (R160). -/
theorem adcOutcome_overflow_iff_xor (hd : s.p.getLsbD 3 = false) : (adcOutcome s m).2.lookup 6 = some true ↔
    (s.a ^^^ (adcOutcome s m).1) &&& (m ^^^ (adcOutcome s m).1) &&& 0x80 ≠ 0 := by
  rw [adcOutcome_overflow m hd, adcOutcome_binary m hd]
  exact overflows_iff_xor _ _ _

/-- V of binary ADC as signed range test (R160). -/
theorem adcOutcome_overflow_iff_range (hd : s.p.getLsbD 3 = false) : (adcOutcome s m).2.lookup 6 = some true ↔
    signed8 s.a + signed8 m + ((s.p.getLsbD 0).toNat : Int) < -128 ∨
      127 < signed8 s.a + signed8 m + ((s.p.getLsbD 0).toNat : Int) :=
  (adcOutcome_overflow m hd).trans (overflows_iff_range _ _ _)

/-- V of binary SBC as signed range test (R161). -/
theorem sbcOutcome_overflow_iff_range (hd : s.p.getLsbD 3 = false) : (sbcOutcome s m).2.lookup 6 = some true ↔
    signed8 s.a - signed8 m - (1 - ((s.p.getLsbD 0).toNat : Int)) < -128 ∨
      127 < signed8 s.a - signed8 m - (1 - ((s.p.getLsbD 0).toNat : Int)) := by
  rw [sbcOutcome_eq_adcOutcome_complement m hd, adcOutcome_overflow_iff_range _ hd, signed8_complement]
  omega

end outcomes

/-! ### The model's computations write these outcomes -/

/-- The computed byte and status are those of an outcome: a bit of P it lists has the value listed, every other is as in `p`. -/
def WritesOutcome (q : ByteAndStatus) (outcome : Byte × List (Nat × Bool)) (p : Byte) : Prop :=
  q.value = outcome.1 ∧ ∀ k < 8, q.p.getLsbD k = (outcome.2.lookup k).getD (p.getLsbD k)

theorem withCznv_writes_binary (r : Byte) (c v : Bool) (p : Byte) :
    WritesOutcome (withCznv r c (r == 0) (bit7 r) v p) (binaryOutcome r c v) p := by
  refine ⟨rfl, fun k hk => ?_⟩
  rw [withCznv_getLsbD _ _ _ _ _ _ _ hk]
  interval_cases k <;> rfl

theorem ofDecResult_writes (q : DecResult) (p : Byte) : WritesOutcome (ofDecResult q p) (decimalOutcome q) p := by
  refine ⟨rfl, fun k hk => ?_⟩
  rw [ofDecResult, withCznv_getLsbD _ _ _ _ _ _ _ hk]
  interval_cases k <;> rfl

theorem adc_writes (s : State) (m : Byte) : WritesOutcome (adc s.a m s.p) (adcOutcome s m) s.p := by
  cases hd : s.p.getLsbD 3 with
  | true =>
    rw [adc_decimal _ _ _ hd, adcOutcome_decimal m hd]
    exact ofDecResult_writes _ _
  | false =>
    rw [adc_binary _ _ _ hd, adcOutcome_binary m hd, adcBinary, bit01_eq_toNat]
    exact withCznv_writes_binary _ _ _ _

theorem sbc_writes (s : State) (m : Byte) : WritesOutcome (sbc s.a m s.p) (sbcOutcome s m) s.p := by
  cases hd : s.p.getLsbD 3 with
  | true =>
    rw [sbc_decimal _ _ _ hd, sbcOutcome_decimal m hd]
    exact ofDecResult_writes _ _
  | false =>
    rw [sbc_binary _ _ _ hd, sbcOutcome_binary m hd, sbcBinary, bit01_eq_toNat]
    exact withCznv_writes_binary _ _ _ _

/-- A compare writes C, Z and N and no other bit (R163). -/
theorem compareBytes_statusAfter {s u : State} {reg m : Byte} (h : u.p = compareBytes reg m s.p) :
    StatusAfter (compareBits reg m) s u := by
  have hz : (reg - m == 0) = decide (reg = m) := decide_eq_decide.mpr sub_eq_zero
  intro k hk
  rw [h, compareBytes_getLsbD _ _ _ _ hk, hz]
  interval_cases k <;> rfl

/-! ### The forms -/

section forms
variable {s : State} {i : Instr} {code : List Byte} {m : Byte} {n : Nat}

/-- An instruction that sets A and P to what a computation answers leaves the outcome the computation writes. -/
theorem leaves_of_writes {q : ByteAndStatus} {outcome : Byte × List (Nat × Bool)} (hq : WritesOutcome q outcome s.p)
    (he : exec i s = .next (account n ((s.setA q.value).setP q.p))) :
    Leaves s i { regsOf s with a := outcome.1 } outcome.2 [] n := by
  obtain ⟨hvalue, hstatus⟩ := hq
  rw [← hvalue]
  exact leaves_of_account he rfl hstatus (memoryAfter_nil rfl) ⟨rfl, rfl, rfl⟩

theorem addsA_of_exec (hcode : encode i = code) (he : exec i s = .next (account n (adcA m s))) : AddsA s i code m n :=
  ⟨hcode, leaves_of_writes (adc_writes s m) he⟩

theorem subtractsA_of_exec (hcode : encode i = code) (he : exec i s = .next (account n (sbcA m s))) :
    SubtractsA s i code m n :=
  ⟨hcode, leaves_of_writes (sbc_writes s m) he⟩

theorem comparesWith_of_exec {reg : Byte} (hcode : encode i = code)
    (he : exec i s = .next (account n (s.setP (compareBytes reg m s.p)))) : ComparesWith reg s i code m n :=
  ⟨hcode, leaves_of_account he rfl (compareBytes_statusAfter rfl) (memoryAfter_nil rfl) ⟨rfl, rfl, rfl⟩⟩

theorem adcImm_leaves_decimal (nn : Byte) (hd : s.p.getLsbD 3 = true) :
    Leaves s (.adcImm nn) { regsOf s with a := (Config.decAdc s.a nn (s.p.getLsbD 0)).r }
      (decimalOutcome (Config.decAdc s.a nn (s.p.getLsbD 0))).2 [] 2 := by
  obtain ⟨-, h⟩ : AddsA s (.adcImm nn) [0x69, nn] nn 2 := addsA_of_exec rfl rfl
  rwa [adcOutcome_decimal nn hd] at h

theorem sbcImm_leaves_decimal (nn : Byte) (hd : s.p.getLsbD 3 = true) :
    Leaves s (.sbcImm nn) { regsOf s with a := (Config.decSbc s.a nn (s.p.getLsbD 0)).r }
      (decimalOutcome (Config.decSbc s.a nn (s.p.getLsbD 0))).2 [] 2 := by
  obtain ⟨-, h⟩ : SubtractsA s (.sbcImm nn) [0xE9, nn] nn 2 := subtractsA_of_exec rfl rfl
  rwa [sbcOutcome_decimal nn hd] at h

/-- From two states, the same decimal results in A, C, Z, N and V; the other bits of P and memory are as before. -/
theorem decimalOutcome_alike {s' : State} {q : DecResult} {n' : Nat}
    (h : Leaves s i { regsOf s with a := q.r } (decimalOutcome q).2 [] n)
    (h' : Leaves s' i { regsOf s' with a := q.r } (decimalOutcome q).2 [] n') :
    ∃ t t', exec i s = .next t ∧ exec i s' = .next t' ∧ t.a = t'.a ∧
      (∀ k, k = 0 ∨ k = 1 ∨ k = 6 ∨ k = 7 → t.p.getLsbD k = t'.p.getLsbD k) ∧
      (∀ k, k = 2 ∨ k = 3 ∨ k = 4 ∨ k = 5 → t.p.getLsbD k = s.p.getLsbD k) ∧ MemoryAfter [] s t := by
  obtain ⟨t, he, hregs, hp, hmem, -⟩ := h
  obtain ⟨t', he', hregs', hp', -⟩ := h'
  refine ⟨t, t', he, he', ?_, fun k hk => ?_, fun k hk => ?_, hmem⟩
  · exact (congrArg Regs.a hregs).trans (congrArg Regs.a hregs').symm
  · have hlt : k < 8 := by omega
    rw [hp k hlt, hp' k hlt]
    rcases hk with rfl | rfl | rfl | rfl <;> rfl
  · rw [hp k (by omega)]
    rcases hk with rfl | rfl | rfl | rfl <;> rfl

end forms

/-- Settles O25: every form executes `adcA` on its operand byte; V is signed overflow. -/
theorem adcForms : Obligations.AdcForms := by
  intro s nn w
  refine ⟨?izx, ?zp, ?imm, ?abs, ?izy, ?zpx, ?aby, ?abx, ?overflow⟩
  case izx | zp | imm | abs | izy | zpx | aby | abx => exact addsA_of_exec rfl rfl
  case overflow => exact fun hd => ⟨adcOutcome_overflow_iff_range nn hd, adcOutcome_overflow_iff_xor nn hd⟩

/-- Settles O26: every form executes `sbcA` on its operand byte; binary SBC is ADC of the complement. -/
theorem sbcForms : Obligations.SbcForms := by
  intro s nn w
  refine ⟨?izx, ?zp, ?imm, ?abs, ?izy, ?zpx, ?aby, ?abx, ?complement, ?overflow⟩
  case izx | zp | imm | abs | izy | zpx | aby | abx => exact subtractsA_of_exec rfl rfl
  case complement =>
    intro hd
    rw [sbcOutcome_eq_adcOutcome_complement nn hd]
    exact ⟨rfl, fun _ => rfl⟩
  case overflow => exact sbcOutcome_overflow_iff_range nn

/-- Settles O27: both states have the outcome of one decimal function applied to the same three arguments. -/
theorem decimalResultsDependOnThreeArguments : Obligations.DecimalResultsDependOnThreeArguments := by
  intro s s' nn i hi hd hd' ha hc
  obtain rfl | rfl := hi
  · have h' := adcImm_leaves_decimal nn hd'
    rw [← ha, ← hc] at h'
    exact decimalOutcome_alike (adcImm_leaves_decimal nn hd) h'
  · have h' := sbcImm_leaves_decimal nn hd'
    rw [← ha, ← hc] at h'
    exact decimalOutcome_alike (sbcImm_leaves_decimal nn hd) h'

/-- Settles O28: every form compares its register with the operand byte and writes nothing but P. -/
theorem compareForms : Obligations.CompareForms := by
  intro s nn w
  refine ⟨?cmpIzx, ?cmpZp, ?cmpImm, ?cmpAbs, ?cmpIzy, ?cmpZpx, ?cmpAby, ?cmpAbx, ?cpxImm, ?cpxZp, ?cpxAbs, ?cpyImm, ?cpyZp,
    ?cpyAbs⟩
  case cmpIzx | cmpZp | cmpImm | cmpAbs | cmpIzy | cmpZpx | cmpAby | cmpAbx => exact comparesWith_of_exec (reg := s.a) rfl rfl
  case cpxImm | cpxZp | cpxAbs => exact comparesWith_of_exec (reg := s.x) rfl rfl
  case cpyImm | cpyZp | cpyAbs => exact comparesWith_of_exec (reg := s.y) rfl rfl

end Sys2Proof.Machine
end

section
/-! PROOF. Increments, shifts, rotations and BIT (43_incdec_shift_bit.md R170 to R180). What each byte operation of the model
computes is what the statements say, as numbers, with C, Z and N at their bits; a read-modify-write leaves that at its effective
address or in A. -/

namespace Sys2Proof.Machine

open Sys2Proof.Claims

/-! ### The result bytes as shifts -/

theorem aslOf_eq_shiftLeft (v : Byte) : aslOf v = v <<< 1 :=
  BitVec.eq_of_toNat_eq (by simp [aslOf, Nat.shiftLeft_eq])

theorem lsrOf_eq_ushiftRight (v : Byte) : lsrOf v = v >>> 1 :=
  BitVec.eq_of_toNat_eq (by simp [lsrOf, Nat.shiftRight_eq_div_pow]; omega)

/-- The shift to the left leaves bit 0 clear, so adding the carry there is setting it. -/
theorem rolOf_eq_or (cin : Bool) (v : Byte) : rolOf cin v = v <<< 1 ||| BitVec.ofNat 8 (bit01 cin) := by
  have hor : 2 ^ 1 * (v.toNat % 128) + cin.toNat = 2 ^ 1 * (v.toNat % 128) ||| cin.toNat :=
    Nat.two_pow_add_eq_or_of_lt cin.toNat_lt _
  have hdouble : v.toNat * 2 % 256 = 2 ^ 1 * (v.toNat % 128) := by omega
  rw [rolOf, hdouble, hor, BitVec.ofNat_or, ← hdouble, bit01_eq_toNat]
  exact congrArg (· ||| _) (aslOf_eq_shiftLeft v)

/-- The shift to the right leaves bit 7 clear, so adding the carry there is setting it. -/
theorem rorOf_eq_or (cin : Bool) (v : Byte) : rorOf cin v = v >>> 1 ||| BitVec.ofNat 8 (bit01 cin * 128) := by
  have hor : 2 ^ 7 * cin.toNat + v.toNat / 2 = 2 ^ 7 * cin.toNat ||| v.toNat / 2 :=
    Nat.two_pow_add_eq_or_of_lt (by omega) _
  have hcarry : cin.toNat * 128 = 2 ^ 7 * cin.toNat := Nat.mul_comm _ _
  rw [rorOf, Nat.add_comm, bit01_eq_toNat, hcarry, hor, BitVec.ofNat_or, BitVec.or_comm]
  exact congrArg (· ||| _) (lsrOf_eq_ushiftRight v)

/-! ### The byte operations of the model compute these results -/

/-- From status `p` the operation `g` answers the byte `f v`, and writes Z and N from it and C as `carry` says. -/
def Computes (g : Byte → Byte → ByteAndStatus) (f : Byte → Byte) (carry : Byte → List (Nat × Bool)) (p : Byte) : Prop :=
  ∀ v, WritesOutcome (g v p) (f v, carry v ++ nzBits (f v)) p

theorem setNZ_writes (r p : Byte) : WritesOutcome { value := r, p := setNZ r p } (r, nzBits r) p := by
  refine ⟨rfl, fun k hk => ?_⟩
  rw [setNZ_getLsbD _ _ _ hk]
  interval_cases k <;> rfl

theorem setNZ_setFlag_c_writes (r : Byte) (c : Bool) (p : Byte) :
    WritesOutcome { value := r, p := setNZ r (setFlag .c c p) } (r, (0, c) :: nzBits r) p := by
  refine ⟨rfl, fun k hk => ?_⟩
  simp only [setNZ_getLsbD _ _ _ hk, setFlag_getLsbD _ _ _ _ hk]
  interval_cases k <;> rfl

section computes
variable (p : Byte)

theorem increment_computes : Computes increment (· + 1) keepsCarry p := fun v => setNZ_writes (v + 1) p

theorem decrement_computes : Computes decrement (· - 1) keepsCarry p := fun v => setNZ_writes (v - 1) p

theorem shiftLeft_computes : Computes shiftLeft aslOf carryFromTop p := fun v => by
  rw [aslOf_eq_shiftLeft]
  exact setNZ_setFlag_c_writes _ _ p

theorem shiftRight_computes : Computes shiftRight lsrOf carryFromBottom p := fun v => by
  rw [lsrOf_eq_ushiftRight]
  exact setNZ_setFlag_c_writes _ _ p

theorem rotateLeft_computes : Computes rotateLeft (rolOf (p.getLsbD 0)) carryFromTop p := fun v => by
  rw [rolOf_eq_or]
  exact setNZ_setFlag_c_writes _ _ p

theorem rotateRight_computes : Computes rotateRight (rorOf (p.getLsbD 0)) carryFromBottom p := fun v => by
  rw [rorOf_eq_or]
  exact setNZ_setFlag_c_writes _ _ p

end computes

/-! ### The forms -/

section forms
variable {s : State} {i : Instr} {code : List Byte} {n : Nat}
  {g : Byte → Byte → ByteAndStatus} {f : Byte → Byte} {carry : Byte → List (Nat × Bool)}

theorem rewrites_of_exec {ea : Word} (hwf : Memory.wf s.mem = true) (hg : Computes g f carry s.p) (hcode : encode i = code)
    (he : exec i s = .next (account n ((s.writeByte ea (g (s.readByte ea) s.p).value).setP (g (s.readByte ea) s.p).p))) :
    Rewrites f carry s i code ea n := by
  obtain ⟨hvalue, hstatus⟩ := hg (s.readByte ea)
  rw [hvalue] at he
  exact ⟨hcode, leaves_of_account he rfl hstatus (State.writeByte_memoryAfter hwf ea _) ⟨rfl, rfl, rfl⟩⟩

theorem rewritesA_of_exec (hg : Computes g f carry s.p) (hcode : encode i = code)
    (he : exec i s = .next (account n ((s.setA (g s.a s.p).value).setP (g s.a s.p).p))) : RewritesA f carry s i code n :=
  ⟨hcode, leaves_of_writes (hg s.a) he⟩

/-- BIT writes Z, N and V and no other bit (R180). -/
theorem bitTest_statusAfter {u : State} {m : Byte} (h : u.p = bitTest s.a m s.p) :
    StatusAfter [(1, decide (s.a &&& m = 0)), (7, m.getLsbD 7), (6, m.getLsbD 6)] s u := by
  intro k hk
  rw [h, bitTest_getLsbD _ _ _ _ hk]
  interval_cases k <;> rfl

theorem testsBits_of_exec {m : Byte} (hcode : encode i = code) (he : exec i s = .next (account n (bitTestA m s))) :
    TestsBits s i code m n :=
  ⟨hcode, leaves_of_account he rfl (bitTest_statusAfter rfl) (memoryAfter_nil rfl) ⟨rfl, rfl, rfl⟩⟩

end forms

/-! ### Nine rotations to the left -/

/-- ROL on the carry and the byte together. -/
def rolPair (q : Bool × Byte) : Bool × Byte := (q.2.getLsbD 7, rolOf q.1 q.2)

/-- The carry and the byte as a ring of nine bits, the carry above bit 7. -/
def ringBit (q : Bool × Byte) (k : Nat) : Bool := if k = 8 then q.1 else q.2.getLsbD k

theorem ringBit_injective {q q' : Bool × Byte} (h : ∀ k < 9, ringBit q k = ringBit q' k) : q = q' := by
  refine Prod.ext (h 8 (by decide)) (BitVec.eq_of_getLsbD_eq fun k hk => ?_)
  have hbit := h k (by omega)
  rwa [ringBit, ringBit, if_neg (by omega), if_neg (by omega)] at hbit

theorem rolOf_getLsbD (cin : Bool) (v : Byte) {k : Nat} (hk : k < 8) :
    (rolOf cin v).getLsbD k = if k = 0 then cin else v.getLsbD (k - 1) := by
  have hcarry : (BitVec.ofNat 8 (bit01 cin)).getLsbD k = (decide (k = 0) && cin) := by cases cin <;> simp [bit01]
  rw [rolOf_eq_or, BitVec.getLsbD_or, BitVec.getLsbD_shiftLeft, hcarry]
  by_cases hk0 : k = 0 <;> simp [hk0, hk]

/-- A rotation to the left moves every bit of the ring one place up. -/
theorem ringBit_rolPair (q : Bool × Byte) {k : Nat} (hk : k < 9) : ringBit (rolPair q) k = ringBit q ((k + 8) % 9) := by
  by_cases htop : k = 8
  · subst htop
    rfl
  · rw [ringBit, if_neg htop, rolPair, rolOf_getLsbD _ _ (by omega)]
    interval_cases k <;> rfl

theorem ringBit_iterate_rolPair (n : Nat) (q : Bool × Byte) {k : Nat} (hk : k < 9) :
    ringBit (rolPair^[n] q) k = ringBit q ((k + 8 * n) % 9) := by
  induction n generalizing q with
  | zero => rw [Function.iterate_zero_apply, Nat.mul_zero, Nat.add_zero, Nat.mod_eq_of_lt hk]
  | succ n ih =>
    rw [Function.iterate_succ_apply, ih, ringBit_rolPair _ (Nat.mod_lt _ (by decide))]
    congr 1
    omega

theorem rolPair_nine (q : Bool × Byte) : rolPair^[9] q = q := by
  refine ringBit_injective fun k hk => ?_
  rw [ringBit_iterate_rolPair 9 q hk]
  congr 1
  omega

/-! ### The obligations -/

/-- Settles O29: every form rewrites the byte at its effective address by `increment` or `decrement`. -/
theorem incDecMemoryForms : Obligations.IncDecMemoryForms := by
  intro s nn w hwf
  refine ⟨?incZp, ?incAbs, ?incZpx, ?incAbx, ?decZp, ?decAbs, ?decZpx, ?decAbx⟩
  case incZp | incAbs | incZpx | incAbx => exact rewrites_of_exec hwf (increment_computes s.p) rfl rfl
  case decZp | decAbs | decZpx | decAbx => exact rewrites_of_exec hwf (decrement_computes s.p) rfl rfl

/-- Settles O30: each loads its index register with the neighbouring byte. -/
theorem incDecRegisterForms : Obligations.IncDecRegisterForms := fun s =>
  ⟨loadsX_of_exec (v := s.x + 1) rfl rfl, loadsY_of_exec (v := s.y + 1) rfl rfl, loadsX_of_exec (v := s.x - 1) rfl rfl,
    loadsY_of_exec (v := s.y - 1) rfl rfl⟩

/-- Settles O31: every form rewrites its byte, or A, by `shiftLeft` or `shiftRight`. -/
theorem shiftForms : Obligations.ShiftForms := by
  intro s nn w hwf
  refine ⟨?aslZp, ?aslAcc, ?aslAbs, ?aslZpx, ?aslAbx, ?lsrZp, ?lsrAcc, ?lsrAbs, ?lsrZpx, ?lsrAbx⟩
  case aslZp | aslAbs | aslZpx | aslAbx => exact rewrites_of_exec hwf (shiftLeft_computes s.p) rfl rfl
  case lsrZp | lsrAbs | lsrZpx | lsrAbx => exact rewrites_of_exec hwf (shiftRight_computes s.p) rfl rfl
  case aslAcc => exact rewritesA_of_exec (shiftLeft_computes s.p) rfl rfl
  case lsrAcc => exact rewritesA_of_exec (shiftRight_computes s.p) rfl rfl

/-- Settles O32: every form rewrites its byte, or A, by `rotateLeft` or `rotateRight`; ROL turns a ring of nine bits. -/
theorem rotateForms : Obligations.RotateForms := by
  intro s nn w hwf
  refine ⟨?rolZp, ?rolAcc, ?rolAbs, ?rolZpx, ?rolAbx, ?rorZp, ?rorAcc, ?rorAbs, ?rorZpx, ?rorAbx, ?nine⟩
  case rolZp | rolAbs | rolZpx | rolAbx => exact rewrites_of_exec hwf (rotateLeft_computes s.p) rfl rfl
  case rorZp | rorAbs | rorZpx | rorAbx => exact rewrites_of_exec hwf (rotateRight_computes s.p) rfl rfl
  case rolAcc => exact rewritesA_of_exec (rotateLeft_computes s.p) rfl rfl
  case rorAcc => exact rewritesA_of_exec (rotateRight_computes s.p) rfl rfl
  case nine => exact rolPair_nine _

/-- Settles O33: both forms execute `bitTestA` on the byte at the effective address. -/
theorem bitForms : Obligations.BitForms := fun _ _ _ => ⟨testsBits_of_exec rfl rfl, testsBits_of_exec rfl rfl⟩

end Sys2Proof.Machine
end

section
/-! PROOF. Branches, jumps and subroutines (44_control_transfer.md R190 to R201). A branch takes its target as a signed displacement
and its count from the page of that target; JSR and RTS are a word pushed and a word popped, with PC set. -/

namespace Sys2Proof.Machine

open Sys2Proof.Claims

/-! ### Branches and jumps -/

/-- The sign extension is the byte, and 0xFF00 more when the byte is negative (R108). -/
theorem sext16_eq_ite (b : Byte) : sext16 b = if b.getLsbD 7 = false then b.setWidth 16 else b.setWidth 16 + 0xFF00 := by
  have hlt := b.isLt
  have hsign : b.getLsbD 7 = b.msb := b.msb_eq_getLsbD_last.symm
  have hpage : (0xFF00 : Word).toNat = 65280 := rfl
  apply BitVec.eq_of_toNat_eq
  rw [sext16, BitVec.toNat_signExtend, hsign]
  cases b.msb with
  | false => rfl
  | true =>
    simp only [if_true, Bool.true_eq_false, if_false, BitVec.toNat_add, BitVec.toNat_setWidth, hpage]
    omega

/-- The target of a branch, with the signed displacement added as the statement adds it (R108). -/
theorem branchTarget_eq_ite (nn : Byte) (next : Word) : branchTarget nn next =
    if nn.getLsbD 7 = false then next + nn.setWidth 16 else next + nn.setWidth 16 + 0xFF00 := by
  rw [branchTarget, sext16_eq_ite]
  split
  · rfl
  · rw [BitVec.add_assoc]

/-- A taken branch counts 3 within the page of the next instruction and 4 out of it (R190). -/
theorem two_add_takenExtra (target next : Word) :
    2 + takenExtra target next = if target.toNat / 256 = next.toNat / 256 then 3 else 4 := by
  rw [takenExtra, hi8_bne]
  by_cases hpage : target.toNat / 256 = next.toNat / 256 <;> simp [hpage, bit01]

section forms
variable {s : State} {i : Instr} {code : List Byte}

/-- A branch or a jump that leaves PC at `v` leaves nothing else changed but the counters (R118). -/
theorem leaves_of_exec_setPc {v : Word} {n : Nat} (he : exec i s = .next (account n (s.setPc v))) :
    Leaves s i { regsOf s with pc := v } [] [] n :=
  leaves_of_account he rfl (statusAfter_nil rfl) (memoryAfter_nil rfl) ⟨rfl, rfl, rfl⟩

theorem branchesOn_of_exec {op nn : Byte} {cond : Bool} (hcode : encode i = code) (hbase : baseCycles op = 2)
    (hextra : extraRule op = .branch) (he : exec i s = branch op cond nn s) : BranchesOn cond s i code nn := by
  rw [branch_eq, hbase, extraCycles, hextra] at he
  refine ⟨hcode, ?_⟩
  simp only [← branchTarget_eq_ite, ← two_add_takenExtra]
  cases cond <;> exact leaves_of_exec_setPc he

end forms

/-! ### Subroutines -/

theorem jsr_leaves {s : State} (hwf : Memory.wf s.mem = true) (w : Word) :
    Leaves s (.jsr w) { regsOf s with sp := s.sp - 2, pc := w } []
      [(stackByte s.sp, hi8 (s.pc - 1)), (stackByte (s.sp - 1), lo8 (s.pc - 1))] 6 := by
  have hregs : regsOf (callSubroutine w s) = { regsOf s with sp := s.sp - 2, pc := w } :=
    congrArg (fun r : Regs => { r with pc := w }) (regsOf_push16 (s.pc - 1) s)
  exact leaves_of_account (u := callSubroutine w s) rfl hregs (statusAfter_nil rfl) (push16_memoryAfter hwf (s.pc - 1))
    ⟨rfl, rfl, rfl⟩

theorem rts_leaves (s : State) :
    Leaves s .rts
      { regsOf s with
        sp := s.sp + 2
        pc := joinBytes (s.readByte (stackByte (s.sp + 2))) (s.readByte (stackByte (s.sp + 1))) + 1 } [] [] 6 := by
  have he : exec .rts s = .next (account 6 (returnFromSubroutine s)) := rfl
  rw [returnFromSubroutine, pop16State_eq, pop16Value_eq] at he
  exact leaves_of_account he rfl (statusAfter_nil rfl) (memoryAfter_nil rfl) ⟨rfl, rfl, rfl⟩

/-- RTS pops the word JSR pushed, one less than the address it continues at. -/
theorem rts_after_jsr {s : State} (hwf : Memory.wf s.mem = true) (w : Word) :
    ∃ t u, exec (.jsr w) s = .next t ∧ exec .rts (advancePc .rts t) = .next u ∧ u.pc = s.pc ∧ u.sp = s.sp := by
  refine ⟨_, _, rfl, rfl, ?_, ?_⟩
  · calc pop16Value (push16 (s.pc - 1) s) + 1 = s.pc - 1 + 1 := by rw [pop16Value_push16 hwf]
      _ = s.pc := BitVec.sub_add_cancel _ _
  · change s.sp - 1 - 1 + 1 + 1 = s.sp
    rw [BitVec.sub_add_cancel, BitVec.sub_add_cancel]

/-! ### The obligations -/

/-- Settles O34: every branch executes `branch` on its flag, or on the flag's negation. -/
theorem branchForms : Obligations.BranchForms := by
  intro s nn
  refine ⟨?bcc, ?bcs, ?beq, ?bne, ?bmi, ?bpl, ?bvc, ?bvs⟩
  case bcc | bcs | beq | bne | bmi | bpl | bvc | bvs => exact branchesOn_of_exec rfl rfl rfl rfl

/-- Settles O35: both forms set PC to their effective address. -/
theorem jumpForms : Obligations.JumpForms := fun _ _ =>
  ⟨⟨rfl, leaves_of_exec_setPc rfl⟩, rfl, leaves_of_exec_setPc rfl⟩

/-- Settles O36: what each leaves by itself, and the one after the other. -/
theorem subroutineForms : Obligations.SubroutineForms := fun s w hwf =>
  ⟨⟨rfl, jsr_leaves hwf w⟩, ⟨rfl, rts_leaves s⟩, rts_after_jsr hwf w⟩

end Sys2Proof.Machine
end

section
/-! PROOF. The stack, system and flag instructions (45_stack_system_flags.md R210 to R223). A push and a pop are one stack operation;
BRK is a word and a byte pushed, RTI a byte and a word popped; a flag instruction is `setFlag` on its flag. -/

namespace Sys2Proof.Machine

open Sys2Proof.Claims

/-! ### P bit by bit -/

section status
variable {s u : State}

/-- One flag written is its bit of P and no other (R16). -/
theorem statusAfter_setFlag (f : Flag) (b : Bool) (h : u.p = setFlag f b s.p) : StatusAfter [(f.bit, b)] s u := by
  intro k hk
  rw [h, setFlag_getLsbD _ _ _ _ hk]
  by_cases hf : k = f.bit
  · simp [hf]
  · simp [List.lookup_cons, beq_false_of_ne hf, hf]

/-- A status loaded whole has every bit written. -/
theorem statusAfter_loaded {bits : Nat → Bool} (h : ∀ k < 8, u.p.getLsbD k = bits k) :
    StatusAfter ((List.range 8).map fun k => (k, bits k)) s u := by
  intro k hk
  rw [h k hk]
  interval_cases k <;> rfl

end status

theorem pushedStatus_eq (p : Byte) : pushedStatus p = stackedP p := rfl

theorem pushedStatus_getLsbD (p : Byte) {k : Nat} (hk : k < 8) :
    (pushedStatus p).getLsbD k = (decide (k = 4 ∨ k = 5) || p.getLsbD k) := by
  rw [pushedStatus_eq, stackedP_getLsbD p k hk]
  by_cases h : k = 4 ∨ k = 5 <;> simp [h]

/-- The bits RTI forces to 0 are those the stacked copy forces to 1, so P comes back but for them (R215). -/
theorem restoredP_stackedP (p : Byte) : restoredP (stackedP p) = restoredP p := by
  apply BitVec.eq_of_getLsbD_eq
  intro k hk
  rw [restoredP_getLsbD _ k hk, restoredP_getLsbD _ k hk, stackedP_getLsbD p k hk]
  by_cases h : k = 4 ∨ k = 5
  · rw [if_pos h, if_pos h]
  · rw [if_neg h, if_neg h, if_neg h]

/-! ### Pushes and pops of one byte -/

theorem leaves_of_exec_push8 {s : State} {i : Instr} {v : Byte} {n : Nat} (hwf : Memory.wf s.mem = true)
    (he : exec i s = .next (account n (push8 v s))) :
    Leaves s i { regsOf s with sp := s.sp - 1 } [] [(stackByte s.sp, v)] n :=
  leaves_of_account he rfl (statusAfter_nil rfl) (push8_memoryAfter hwf v) ⟨rfl, rfl, rfl⟩

/-- PLA loads A with the byte popped (R212). -/
theorem pla_leaves (s : State) :
    Leaves s .pla { regsOf s with a := s.readByte (stackByte (s.sp + 1)), sp := s.sp + 1 }
      (nzBits (s.readByte (stackByte (s.sp + 1)))) [] 4 := by
  rw [← pop8Value_eq]
  exact leaves_of_account (u := loadA (pop8Value s) (pop8State s)) rfl rfl (statusAfter_setNZ rfl) (memoryAfter_nil rfl)
    ⟨rfl, rfl, rfl⟩

/-- PLP loads P with the byte popped (R213). -/
theorem plp_leaves (s : State) :
    Leaves s .plp { regsOf s with sp := s.sp + 1 }
      ((List.range 8).map fun k => (k, (s.readByte (stackByte (s.sp + 1))).getLsbD k)) [] 4 := by
  rw [← pop8Value_eq]
  exact leaves_of_account (u := (pop8State s).setP (pop8Value s)) rfl rfl (statusAfter_loaded fun _ _ => rfl)
    (memoryAfter_nil rfl) ⟨rfl, rfl, rfl⟩

/-- PLP pops the copy of P that PHP pushed (R211, R213). -/
theorem plp_after_php {s : State} (hwf : Memory.wf s.mem = true) :
    ∃ t u, exec .php s = .next t ∧ exec .plp t = .next u ∧ u.sp = s.sp ∧ u.p = pushedStatus s.p :=
  ⟨_, _, rfl, rfl, BitVec.sub_add_cancel s.sp 1, pop8Value_push8 hwf (stackedP s.p)⟩

/-! ### BRK -/

theorem byte_sub_one_sub_two (b : Byte) : b - 1 - 2 = b - 3 := by bv_omega

theorem stackByte_ne {p q : Byte} (h : p ≠ q) : stackByte p ≠ stackByte q := by
  rwa [stackByte_eq, stackByte_eq, Ne, stackAddr_inj]

/-- A push at an address that no store before it used adds its byte to theirs. -/
theorem memoryAfter_append_push8 {s u : State} {stored : List (Word × Byte)} (hwf : Memory.wf u.mem = true)
    (h : MemoryAfter stored s u) (hfresh : stored.lookup (stackByte u.sp) = none) (v : Byte) :
    MemoryAfter (stored ++ [(stackByte u.sp, v)]) s (push8 v u) := by
  intro b
  rw [push8_memoryAfter hwf v b, h b, lookup_cons_getD, List.lookup_append]
  by_cases hb : b = stackByte u.sp
  · simp [hb, hfresh]
  · cases stored.lookup b <;> simp [List.lookup_cons, beq_false_of_ne hb, hb]

/-- The three bytes of the trap stand at three addresses, also where SP wraps (R214, R237). -/
theorem takeBreak_memoryAfter {s : State} (hwf : Memory.wf s.mem = true) :
    MemoryAfter [(stackByte s.sp, hi8 (s.pc + 1)), (stackByte (s.sp - 1), lo8 (s.pc + 1)),
      (stackByte (s.sp - 2), pushedStatus s.p)] s (takeBreak s) := by
  have hsp : (push16 (s.pc + 1) s).sp = s.sp - 2 := byte_sub_one_sub_one s.sp
  have hhi : stackByte (s.sp - 2) ≠ stackByte s.sp := stackByte_ne (by bv_omega)
  have hlo : stackByte (s.sp - 2) ≠ stackByte (s.sp - 1) := stackByte_ne (by bv_omega)
  have hfresh : [(stackByte s.sp, hi8 (s.pc + 1)), (stackByte (s.sp - 1), lo8 (s.pc + 1))].lookup
      (stackByte (s.sp - 2)) = none := by
    rw [List.lookup_cons, beq_false_of_ne hhi, List.lookup_cons, beq_false_of_ne hlo]
    rfl
  rw [← hsp] at hfresh ⊢
  exact memoryAfter_append_push8 (push16_wf hwf _) (push16_memoryAfter hwf _) hfresh (stackedP s.p)

theorem regsOf_takeBreak {s : State} (hwf : Memory.wf s.mem = true) :
    regsOf (takeBreak s) = { regsOf s with sp := s.sp - 3, pc := joinBytes (s.readByte 0xFFFF) (s.readByte 0xFFFE) } := by
  have hpc : (takeBreak s).pc = joinBytes (s.readByte 0xFFFF) (s.readByte 0xFFFE) := takeBreak_pc hwf
  rw [regsOf, takeBreak_a, takeBreak_x, takeBreak_y, takeBreak_sp, hpc, byte_sub_one_sub_one, byte_sub_one_sub_two]
  rfl

theorem brk_leaves {s : State} (hwf : Memory.wf s.mem = true) :
    Leaves s .brk { regsOf s with sp := s.sp - 3, pc := joinBytes (s.readByte 0xFFFF) (s.readByte 0xFFFE) } [(2, true)]
      [(stackByte s.sp, hi8 (s.pc + 1)), (stackByte (s.sp - 1), lo8 (s.pc + 1)), (stackByte (s.sp - 2), pushedStatus s.p)] 7 :=
  leaves_of_account (u := takeBreak s) rfl (regsOf_takeBreak hwf) (statusAfter_setFlag .i true (takeBreak_p s))
    (takeBreak_memoryAfter hwf) (takeBreak_sameCounters s)

/-! ### RTI -/

theorem byte_add_one_add_two (b : Byte) : b + 1 + 2 = b + 3 := by bv_omega

theorem regsOf_returnFromBreak (s : State) : regsOf (returnFromBreak s) =
    { regsOf s with
      sp := s.sp + 3
      pc := joinBytes (s.readByte (stackByte (s.sp + 3))) (s.readByte (stackByte (s.sp + 2))) } := by
  rw [returnFromBreak, pop16State_eq, pop16Value_eq, pop8State_sp, byte_add_one_add_two, byte_add_one_add_one]
  rfl

/-- RTI loads P with the byte popped, Break and Unused cleared (R215). -/
theorem returnFromBreak_p_getLsbD (s : State) (k : Nat) (hk : k < 8) : (returnFromBreak s).p.getLsbD k =
    (decide (k ≠ 4 ∧ k ≠ 5) && (s.readByte (stackByte (s.sp + 1))).getLsbD k) := by
  rw [returnFromBreak_p, restoredP_getLsbD _ k hk, pop8Value_eq]
  by_cases h : k = 4 ∨ k = 5 <;> simp [h, ← not_or]

theorem rti_leaves (s : State) :
    Leaves s .rti
      { regsOf s with
        sp := s.sp + 3
        pc := joinBytes (s.readByte (stackByte (s.sp + 3))) (s.readByte (stackByte (s.sp + 2))) }
      ((List.range 8).map fun k => (k, decide (k ≠ 4 ∧ k ≠ 5) && (s.readByte (stackByte (s.sp + 1))).getLsbD k)) [] 6 :=
  leaves_of_account (u := returnFromBreak s) rfl (regsOf_returnFromBreak s) (statusAfter_loaded (returnFromBreak_p_getLsbD s))
    (memoryAfter_nil (returnFromBreak_mem s)) (returnFromBreak_sameCounters s)

/-- A byte pushed and popped again leaves the word above it to be popped. -/
theorem pop16Value_pop8State_push8 {s : State} (hwf : Memory.wf s.mem = true) (v : Byte) :
    pop16Value (pop8State (push8 v s)) = pop16Value s := by
  have hne : s.sp + 2 ≠ s.sp ∧ s.sp + 1 ≠ s.sp := by bv_omega
  rw [pop16Value_eq, pop16Value_eq, pop8State_sp, push8_sp, BitVec.sub_add_cancel]
  simp only [pop8State_readByte, push8_readByte hwf, stackByte_eq, stackAddr_inj, hne, if_false]

/-- RTI pops the status and the return address BRK pushed; that BRK set I and PC since does not show in what it pops (R215). -/
theorem rti_after_brk {s : State} (hwf : Memory.wf s.mem = true) :
    ∃ t u, exec .brk s = .next t ∧ exec .rti (advancePc .rti t) = .next u ∧ u.pc = s.pc + 1 ∧ u.sp = s.sp ∧
      u.p = s.p &&& 0xCF := by
  refine ⟨_, _, rfl, rfl, ?pc, ?sp, ?p⟩
  case pc =>
    calc pop16Value (pop8State (push8 (stackedP s.p) (push16 (s.pc + 1) s)))
        = pop16Value (push16 (s.pc + 1) s) := pop16Value_pop8State_push8 (push16_wf hwf _) _
      _ = s.pc + 1 := pop16Value_push16 hwf _
  case sp =>
    change s.sp - 1 - 1 - 1 + 1 + 1 + 1 = s.sp
    rw [BitVec.sub_add_cancel, BitVec.sub_add_cancel, BitVec.sub_add_cancel]
  case p =>
    calc restoredP (pop8Value (push8 (stackedP s.p) (push16 (s.pc + 1) s)))
        = restoredP (stackedP s.p) := by rw [pop8Value_push8 (push16_wf hwf _)]
      _ = s.p &&& 0xCF := restoredP_stackedP s.p

/-! ### The flag instructions -/

theorem writesOneFlag_of_exec {s : State} {i : Instr} {code : List Byte} (f : Flag) (b : Bool) (hcode : encode i = code)
    (he : exec i s = .next (account 2 (s.setP (setFlag f b s.p)))) : WritesOneFlag f.bit b s i code :=
  ⟨hcode, leaves_of_account he rfl (statusAfter_setFlag f b rfl) (memoryAfter_nil rfl) ⟨rfl, rfl, rfl⟩⟩

theorem nop_leaves (s : State) : Leaves s .nop (regsOf s) [] [] 2 :=
  leaves_of_account (u := s) rfl rfl (statusAfter_nil rfl) (memoryAfter_nil rfl) ⟨rfl, rfl, rfl⟩

/-! ### The obligations -/

/-- Settles O37: PHA pushes A and PHP the stacked copy of P. -/
theorem pushForms : Obligations.PushForms := fun s hwf =>
  ⟨⟨rfl, leaves_of_exec_push8 hwf rfl⟩, ⟨rfl, leaves_of_exec_push8 (v := pushedStatus s.p) hwf rfl⟩,
    fun _ hk => pushedStatus_getLsbD s.p hk⟩

/-- Settles O38: what each leaves by itself, and PLP after PHP. -/
theorem pullForms : Obligations.PullForms := fun s =>
  ⟨⟨rfl, pla_leaves s⟩, ⟨rfl, plp_leaves s⟩, plp_after_php⟩

/-- Settles O39: BRK takes the trap. -/
theorem breakEntry : Obligations.BreakEntry := fun _ hwf => ⟨rfl, brk_leaves hwf⟩

/-- Settles O40: what RTI leaves by itself, and after BRK. -/
theorem breakReturn : Obligations.BreakReturn := fun s => ⟨rfl, rti_leaves s, rti_after_brk⟩

/-- Settles O41: each of the seven sets or clears its own flag. -/
theorem flagAndNopForms : Obligations.FlagAndNopForms := fun s =>
  ⟨writesOneFlag_of_exec .c true rfl rfl, writesOneFlag_of_exec .c false rfl rfl, writesOneFlag_of_exec .i true rfl rfl,
    writesOneFlag_of_exec .i false rfl rfl, writesOneFlag_of_exec .d true rfl rfl, writesOneFlag_of_exec .d false rfl rfl,
    writesOneFlag_of_exec .v false rfl rfl, rfl, nop_leaves s⟩

end Sys2Proof.Machine
end

section
/-! PROOF. The run: one lemma per way a turn of its loop can go, and what follows of the ends of a run (60_exceptions.md R230 to
R234, R245 to R249). -/

namespace Sys2Proof.Machine

/-! ### One turn of the loop -/

section turn
variable {table : BaseCycles} {ev : Evaluator} {fuel k : Nat} {s t : State} {r : StopReason}

theorem stepWith_illegal (hrun : s.run = .running) (hop : (s.readByte s.pc).toNat ∈ illegalOpcodes) :
    stepWith table s = .next (haltIllegal s) :=
  stepWith_undecoded hrun ((fetchInstr_eq_none_iff s).mpr hop)

/-- A running core meets an illegal byte or completes one instruction, with any table. -/
theorem stepWith_cases (table : BaseCycles) (hrun : s.run = .running) : (s.readByte s.pc).toNat ∈ illegalOpcodes ∨
    ∃ t, stepWith table s = .next t ∧ t.run = .running ∧ t.ins = s.ins + 1 := by
  cases hf : fetchInstr s with
  | none => exact .inl ((fetchInstr_eq_none_iff s).mp hf)
  | some i =>
    obtain ⟨v, extra, hv, -, he⟩ := exec_eq_account i (advancePc i s)
    exact .inr ⟨_, (stepWith_decoded hrun hf).trans (execWith_of_exec he), hv.run.trans hrun, congrArg (· + 1) hv.ins⟩

/-- A step that halts the core ends the loop; the evaluator is not consulted (R231). -/
theorem runLoop_illegal (hrun : s.run = .running) (hop : (s.readByte s.pc).toNat ∈ illegalOpcodes) :
    runLoop table ev (fuel + 1) k s = .returned (haltIllegal s) := by
  simp only [runLoop, stepWith_illegal hrun hop, haltIllegal_run]

theorem runLoop_stops (hstep : stepWith table s = .next t) (ht : t.run = .running) (hev : evaluate ev (k + 1) t = some r) :
    runLoop table ev (fuel + 1) k s = .returned (t.setRun (.stopped r)) := by
  simp only [runLoop, hstep, ht, hev]

theorem runLoop_goesOn (hstep : stepWith table s = .next t) (ht : t.run = .running) (hev : evaluate ev (k + 1) t = none) :
    runLoop table ev (fuel + 1) k s = runLoop table ev fuel (k + 1) t := by
  simp only [runLoop, hstep, ht, hev]

theorem run_of_wf (hev : ev.wf = true) : run table ev fuel s = runLoop table ev fuel 0 (s.setRun .running) := if_pos hev

theorem run_of_not_wf (hev : ¬ ev.wf = true) : run table ev fuel s = .refused .maxInstructionsZero := if_neg hev

/-- A run from an illegal byte halts at once, whatever RUN was before it. -/
theorem run_illegal (hev : ev.wf = true) (hop : (s.readByte s.pc).toNat ∈ illegalOpcodes) :
    run table ev (fuel + 1) s = .returned (haltIllegal s) :=
  (run_of_wf hev).trans (runLoop_illegal rfl hop)

end turn

/-- Settles O7: nothing is fetched, so the step halts, and a run from there halts at its first step. -/
theorem illegalOpcodeHaltsPrecisely : Obligations.IllegalOpcodeHaltsPrecisely := fun s hrun hop =>
  ⟨step_undecoded hrun ((fetchInstr_eq_none_iff s).mpr hop), fun _ _ _ hev => run_illegal hev hop⟩

/-- Settles O8: the halt writes the reason that RUN already held, and a run sets nothing but RUN before its loop. -/
theorem stoppedCoreRests : Obligations.StoppedCoreRests := by
  refine ⟨fun _ _ => step_stopped, fun table s ev fuel hev hop hrun => ?_, fun _ _ _ _ => run_of_wf⟩
  have hhalted : haltIllegal s = s := by rw [haltIllegal, ← hrun]; rfl
  rw [run_illegal hev hop, hhalted]

/-- Settles O54: the evaluator's answer to the state the step left decides between stopping and going on. -/
theorem evaluatorIsAskedAfterEachInstruction : Obligations.EvaluatorIsAskedAfterEachInstruction :=
  fun _ _ _ _ _ hstep ht =>
    ⟨fun _ hb => runLoop_stops hstep ht (if_pos hb), fun _ hb => runLoop_goesOn hstep ht (if_neg hb),
      fun _ hf => runLoop_stops hstep ht (if_pos hf),
      fun _ hf => runLoop_goesOn hstep ht (if_neg (Bool.eq_false_iff.mp hf))⟩

/-! ### How a run ends -/

/-- `t` is a state in which a run may end: halted on an illegal byte, or stopped by the evaluator after a completed instruction. -/
inductive RunEnd (ev : Evaluator) : State → Prop
  | illegal (s : State) (hop : (s.readByte s.pc).toNat ∈ illegalOpcodes) : RunEnd ev (haltIllegal s)
  | stopped (k : Nat) (s : State) (r : StopReason) (hrun : s.run = .running) (hev : evaluate ev k s = some r) :
      RunEnd ev (s.setRun (.stopped r))

/-- The loop spends its fuel or returns at such an end; it neither faults nor refuses. -/
theorem runLoop_ends (table : BaseCycles) (ev : Evaluator) (fuel : Nat) {k : Nat} {s : State} (hrun : s.run = .running) :
    (∃ t, runLoop table ev fuel k s = .outOfFuel t) ∨ ∃ t, runLoop table ev fuel k s = .returned t ∧ RunEnd ev t := by
  induction fuel generalizing k s with
  | zero => exact .inl ⟨s, rfl⟩
  | succ fuel ih =>
    obtain hop | ⟨t, hstep, ht, -⟩ := stepWith_cases table hrun
    · exact .inr ⟨_, runLoop_illegal hrun hop, .illegal s hop⟩
    · cases hev : evaluate ev (k + 1) t with
      | none =>
        rw [runLoop_goesOn hstep ht hev]
        exact ih ht
      | some r => exact .inr ⟨_, runLoop_stops hstep ht hev, .stopped (k + 1) t r ht hev⟩

theorem Evaluator.wf_iff (ev : Evaluator) : ev.wf = true ↔ ev ≠ .maxInstructions 0 := by
  cases ev <;> simp [Evaluator.wf]

/-- A run is refused, spends its fuel, or returns at an end of its loop. -/
theorem run_cases (table : BaseCycles) (ev : Evaluator) (fuel : Nat) (s : State) :
    (ev = .maxInstructions 0 ∧ run table ev fuel s = .refused .maxInstructionsZero) ∨
      (ev ≠ .maxInstructions 0 ∧
        ((∃ t, run table ev fuel s = .outOfFuel t) ∨ ∃ t, run table ev fuel s = .returned t ∧ RunEnd ev t)) := by
  by_cases hev : ev.wf = true
  · rw [run_of_wf hev]
    exact .inr ⟨ev.wf_iff.mp hev, runLoop_ends table ev fuel rfl⟩
  · exact .inl ⟨of_not_not fun h => hev (ev.wf_iff.mpr h), run_of_not_wf hev⟩

theorem runEnd_of_returned {table : BaseCycles} {ev : Evaluator} {fuel : Nat} {s t : State}
    (h : run table ev fuel s = .returned t) : RunEnd ev t := by
  obtain ⟨-, hrun⟩ | ⟨-, ⟨u, hrun⟩ | ⟨u, hrun, hend⟩⟩ := run_cases table ev fuel s
  · exact nomatch hrun.symm.trans h
  · exact nomatch hrun.symm.trans h
  · cases hrun.symm.trans h
    exact hend

/-! ### The evaluators' reasons -/

section reasons
variable {k : Nat} {s : State} {r : StopReason}

theorem reason_of_maxInstructions {n : Counter} (h : evaluate (.maxInstructions n) k s = some r) : r = .maxInstructions :=
  (Option.some.inj (Option.ite_none_right_eq_some.mp h).2).symm

theorem reason_of_opcodeReached {b : Byte} (h : evaluate (.opcodeReached b) k s = some r) :
    r = .opcodeReached b ∧ s.readByte s.pc = b := by
  obtain ⟨hb, hr⟩ := Option.ite_none_right_eq_some.mp h
  exact ⟨(Option.some.inj hr).symm, hb⟩

theorem reason_of_predicate {f : State → Bool} (h : evaluate (.predicate f) k s = some r) : r = .predicate ∧ f s = true := by
  obtain ⟨hf, hr⟩ := Option.ite_none_right_eq_some.mp h
  exact ⟨(Option.some.inj hr).symm, hf⟩

end reasons

/-- Settles O52: a run that is not refused returns at an end of its loop, and there the evaluator's answer names its reason. -/
theorem runStopsOnlyForItsEvaluatorOrAnIllegalOpcode : Obligations.RunStopsOnlyForItsEvaluatorOrAnIllegalOpcode := by
  intro table ev fuel s
  refine ⟨nofun, ?_, fun t hret => ?_⟩
  · obtain ⟨hev, hrun⟩ | ⟨hev, ⟨t, hrun⟩ | ⟨t, hrun, -⟩⟩ := run_cases table ev fuel s
    · exact iff_of_true ⟨_, hrun⟩ hev
    · exact iff_of_false (by simp [hrun]) hev
    · exact iff_of_false (by simp [hrun]) hev
  · cases runEnd_of_returned hret with
    | illegal u hop => exact .inl ⟨rfl, hop⟩
    | stopped k u r hrun hev =>
      refine .inr ?_
      cases ev with
      | maxInstructions n => exact congrArg _ (reason_of_maxInstructions hev)
      | opcodeReached b =>
        obtain ⟨rfl, hb⟩ := reason_of_opcodeReached hev
        exact ⟨rfl, hb⟩
      | predicate f =>
        obtain ⟨rfl, hf⟩ := reason_of_predicate hev
        have hu : u.setRun .running = u := by rw [← hrun]; rfl
        exact ⟨rfl, (congrArg f hu).trans hf⟩
      | forever => cases hev

/-! ### MaxInstructions -/

/-- Where a run that has `m` instructions to go from `s` may end: after all of them, or sooner by a halt. -/
def EndsWithin (m : Nat) (s t : State) : Prop :=
  (t.run = .stopped .maxInstructions ∧ t.ins = s.ins + BitVec.ofNat 64 m) ∨
    (t.badEnd = true ∧ ∃ j, j < m ∧ t.ins = s.ins + BitVec.ofNat 64 j)

theorem endsWithin_illegal (m : Nat) (s : State) : EndsWithin (m + 1) s (haltIllegal s) :=
  .inr ⟨rfl, 0, m.succ_pos, (BitVec.add_zero s.ins).symm⟩

theorem ins_add_succ {s t : State} (hins : t.ins = s.ins + 1) (j : Nat) :
    t.ins + BitVec.ofNat 64 j = s.ins + BitVec.ofNat 64 (j + 1) := by
  rw [hins, BitVec.ofNat_add, BitVec.add_assoc, BitVec.add_comm (BitVec.ofNat 64 j)]
  rfl

/-- One instruction more before the ones to go. -/
theorem EndsWithin.succ {m : Nat} {s t u : State} (hins : t.ins = s.ins + 1) (h : EndsWithin m t u) : EndsWithin (m + 1) s u := by
  obtain ⟨hrun, hu⟩ | ⟨hbad, j, hj, hu⟩ := h
  · exact .inl ⟨hrun, hu.trans (ins_add_succ hins m)⟩
  · exact .inr ⟨hbad, j + 1, Nat.succ_lt_succ hj, hu.trans (ins_add_succ hins j)⟩

/-- With `m + 1` instructions to go, that much fuel is enough, and more changes nothing. -/
theorem runLoop_maxInstructions (table : BaseCycles) {n : Counter} (m : Nat) {k : Nat} {s : State} (hrun : s.run = .running)
    (hk : n.toNat = k + (m + 1)) :
    ∃ t, (∀ more, runLoop table (.maxInstructions n) (m + more + 1) k s = .returned t) ∧ EndsWithin (m + 1) s t := by
  induction m generalizing k s with
  | zero =>
    obtain hop | ⟨t, hstep, ht, hins⟩ := stepWith_cases table hrun
    · exact ⟨_, fun _ => runLoop_illegal hrun hop, endsWithin_illegal 0 s⟩
    · exact ⟨_, fun _ => runLoop_stops hstep ht (if_pos (by omega)), .inl ⟨rfl, hins⟩⟩
  | succ m ih =>
    obtain hop | ⟨t, hstep, ht, hins⟩ := stepWith_cases table hrun
    · exact ⟨_, fun _ => runLoop_illegal hrun hop, endsWithin_illegal (m + 1) s⟩
    · obtain ⟨u, hloop, hu⟩ := ih ht (k := k + 1) (by omega)
      refine ⟨u, fun more => ?_, hu.succ hins⟩
      have hev : evaluate (.maxInstructions n) (k + 1) t = none := if_neg (by omega)
      rw [runLoop_goesOn hstep ht hev, Nat.add_right_comm, hloop]

/-- Settles O53: the loop's count starts at zero, so there are `n` instructions to go. -/
theorem maxInstructionsRunsExactlyN : Obligations.MaxInstructionsRunsExactlyN := by
  intro table n s hn
  obtain ⟨m, hm⟩ := Nat.exists_eq_succ_of_ne_zero fun h => hn (BitVec.eq_of_toNat_eq h)
  obtain ⟨t, hloop, ht⟩ := runLoop_maxInstructions table m (s := s.setRun .running) rfl (hm.trans (m + 1).zero_add.symm)
  refine ⟨t, fun more => ?_, ?_⟩
  · have hwf : (Evaluator.maxInstructions n).wf = true := bne_iff_ne.mpr hn
    rw [run_of_wf hwf, hm, Nat.succ_add, hloop]
  · rwa [EndsWithin, ← Nat.succ_eq_add_one, ← hm, BitVec.ofNat_toNat, BitVec.setWidth_eq] at ht

/-! ### P.I -/

theorem eq_php_or_brk_of_mnemonic {i : Instr} (h : i.mnemonic ∈ [.php, .brk]) : i = .php ∨ i = .brk := by
  cases i <;> simp [Instr.mnemonic] at h ⊢

/-- The mask 0x04 is P.I; setting it twice is setting it once. -/
theorem sameOff_interruptDisable (p : Byte) : SameOff 0x04 p (p ||| 0x04) := by rw [SameOff, BitVec.or_assoc, BitVec.or_self]

/-- Settles O47: PHP and BRK push P.I, within the stack page, so BRK reads the same vector; no other instruction reads it. -/
theorem interruptDisableSelectsNothing : Obligations.InterruptDisableSelectsNothing := by
  intro i s hwf
  have hsame := sameOff_interruptDisable s.p
  by_cases hpush : i.mnemonic ∈ [.php, .brk]
  · obtain rfl | rfl := eq_php_or_brk_of_mnemonic hpush
    · exact ⟨_, _, rfl, rfl, rfl, fun h => absurd rfl h, rfl, rfl, rfl, hsame⟩
    · have hregs := (regsOf_takeBreak (s := s.setP (s.p ||| 0x04)) hwf).trans (regsOf_takeBreak hwf).symm
      exact ⟨_, _, rfl, rfl, hregs, fun _ h => absurd rfl h, by simp, by simp, by simp, hsame.setFlag .i true⟩
  · obtain ⟨n, u, u', hr, hr', hu, hp⟩ := exec_alike hsame i ⟨rfl, rfl, rfl, rfl, rfl⟩ (absurd · hpush)
    refine ⟨account n u, account n u', hr, hr', ?_⟩
    rw [hu]
    exact ⟨rfl, fun _ _ => rfl, rfl, rfl, rfl, hp⟩

end Sys2Proof.Machine
end

section
/-! PROOF. The counters and the host's moves: no instruction reads CYC or INS, so two runs with different cycle tables differ in CYC
alone (70_reset_and_hazards.md R267); and what Reset and SetReg leave in each register (R261, R263). -/

namespace Sys2Proof.Machine

open Sys2Proof.Claims

/-! ### The counters -/

/-- CYC and INS grown by `c` and `n`, modulo 2^64. -/
def addCounters (c n : Counter) (s : State) : State := { s with cyc := s.cyc + c, ins := s.ins + n }

/-- Accounting adds to the counters, and the order of additions does not matter (R120, R121). -/
theorem account_addCounters (cycles : Nat) (c n : Counter) (s : State) :
    account cycles (addCounters c n s) = addCounters c n (account cycles s) := by
  simp only [account, addCounters, State.setCyc, State.setIns, add_right_comm]

theorem push16_addCounters (w : Word) (c n : Counter) (s : State) :
    push16 w (addCounters c n s) = addCounters c n (push16 w s) := rfl

theorem takeBreak_addCounters (c n : Counter) (s : State) : takeBreak (addCounters c n s) = addCounters c n (takeBreak s) := by
  rw [takeBreak, push16_addCounters]
  rfl

theorem pop8State_addCounters (c n : Counter) (s : State) : pop8State (addCounters c n s) = addCounters c n (pop8State s) := rfl

theorem returnFromBreak_addCounters (c n : Counter) (s : State) :
    returnFromBreak (addCounters c n s) = addCounters c n (returnFromBreak s) := by
  rw [returnFromBreak, pop8State_addCounters]
  rfl

/-- Before accounting an instruction neither reads nor writes the counters: what it does to the rest of the state, and the count it
answers with, are the same whatever the counters hold. Two effects of several stack operations are named apart; of every other
effect it holds by definition. -/
theorem exec_from_addCounters (i : Instr) (c n : Counter) (s : State) : ∃ (cycles : Nat) (u : State),
    exec i s = .next (account cycles u) ∧ exec i (addCounters c n s) = .next (account cycles (addCounters c n u)) := by
  cases i with
  | brk => exact ⟨_, _, rfl, congrArg (implied 0x00) (takeBreak_addCounters c n s)⟩
  | rti => exact ⟨_, _, rfl, congrArg (implied 0x40) (returnFromBreak_addCounters c n s)⟩
  | bcc _ | bcs _ | beq _ | bne _ | bmi _ | bpl _ | bvc _ | bvs _ => exact ⟨_, _, branch_eq _ _ _ _, branch_eq _ _ _ _⟩
  | _ => exact ⟨_, _, rfl, rfl⟩

theorem exec_addCounters (i : Instr) (c n : Counter) (s : State) :
    exec i (addCounters c n s) = onNext (addCounters c n) (exec i s) := by
  obtain ⟨cycles, u, he, he'⟩ := exec_from_addCounters i c n s
  rw [he, he', account_addCounters, onNext]

/-- Settles O45: accounting alone touches the counters, and it only adds to them. -/
theorem countersAffectNothingElse : Obligations.CountersAffectNothingElse := fun i s c n => exec_addCounters i c n s

/-! ### Two cycle tables -/

section tables
variable {table other : BaseCycles} {ev : Evaluator} {i : Instr} {s t : State}

theorem setCyc_eq_addCounters (c : Counter) (s : State) : s.setCyc c = addCounters (c - s.cyc) 0 s := by
  simp only [addCounters, State.setCyc, add_sub_cancel, add_zero]

theorem addCounters_zero_eq_setCyc (c : Counter) (s : State) : addCounters c 0 s = s.setCyc (s.cyc + c) := by
  simp only [addCounters, State.setCyc, add_zero]

theorem exec_setCyc (c : Counter) (h : exec i s = .next t) : ∃ d, exec i (s.setCyc c) = .next (t.setCyc d) :=
  ⟨_, by rw [setCyc_eq_addCounters, exec_addCounters, h, onNext, addCounters_zero_eq_setCyc]⟩

/-- Each table's count goes to CYC only. -/
theorem execWith_setCyc (other : BaseCycles) (c : Counter) (h : execWith table i s = .next t) :
    ∃ d, execWith other i (s.setCyc c) = .next (t.setCyc d) := by
  obtain ⟨v, extra, -, -, he⟩ := exec_eq_account i s
  obtain ⟨d, he'⟩ := exec_setCyc c he
  rw [execWith, he] at h
  cases h
  exact ⟨_, by rw [execWith, he', onNext]; rfl⟩

/-- Fetch and the halt do not look at CYC, so the step goes the same way. -/
theorem stepWith_setCyc (other : BaseCycles) (c : Counter) (h : stepWith table s = .next t) :
    ∃ d, stepWith other (s.setCyc c) = .next (t.setCyc d) := by
  cases hrun : s.run with
  | stopped r =>
    cases (stepWith_stopped hrun).symm.trans h
    exact ⟨c, stepWith_stopped hrun⟩
  | running =>
    cases hf : fetchInstr s with
    | none =>
      cases (stepWith_undecoded hrun hf).symm.trans h
      exact ⟨c, stepWith_undecoded hrun hf⟩
    | some i =>
      obtain ⟨d, hd⟩ := execWith_setCyc other c ((stepWith_decoded hrun hf).symm.trans h)
      exact ⟨d, (stepWith_decoded (s := s.setCyc c) hrun hf).trans hd⟩

theorem evaluate_setCyc (hev : IgnoresCyc ev) (k : Nat) (s : State) (c : Counter) : evaluate ev k (s.setCyc c) = evaluate ev k s := by
  cases ev with
  | predicate f => exact congrArg (if · then some StopReason.predicate else none) (hev s c)
  | maxInstructions _ | opcodeReached _ | forever => rfl

/-- Turn by turn the two loops take the same way. -/
theorem runLoop_sameButCyc (table other : BaseCycles) (hev : IgnoresCyc ev) (fuel : Nat) {k : Nat} (c : Counter)
    (hrun : s.run = .running) : SameButCyc (runLoop table ev fuel k s) (runLoop other ev fuel k (s.setCyc c)) := by
  induction fuel generalizing k s c with
  | zero => exact ⟨c, rfl⟩
  | succ fuel ih =>
    obtain hop | ⟨t, hstep, ht, -⟩ := stepWith_cases table hrun
    · rw [runLoop_illegal hrun hop, runLoop_illegal (s := s.setCyc c) hrun hop]
      exact ⟨c, rfl⟩
    · obtain ⟨d, hstep'⟩ := stepWith_setCyc other c hstep
      have hsame := evaluate_setCyc hev (k + 1) t d
      cases hanswer : evaluate ev (k + 1) t with
      | none =>
        rw [runLoop_goesOn hstep ht hanswer, runLoop_goesOn hstep' ht (hsame.trans hanswer)]
        exact ih d ht
      | some r =>
        rw [runLoop_stops hstep ht hanswer, runLoop_stops hstep' ht (hsame.trans hanswer)]
        exact ⟨d, rfl⟩

end tables

/-- Settles O56: both runs are refused, or both enter the loop from states that differ in CYC at most. -/
theorem cycleTableReachesOnlyCyc : Obligations.CycleTableReachesOnlyCyc := by
  intro table other ev fuel s c hev
  by_cases hwf : ev.wf = true
  · rw [run_of_wf hwf, run_of_wf hwf]
    exact runLoop_sameButCyc table other hev fuel c rfl
  · rw [run_of_not_wf hwf, run_of_not_wf hwf]
    rfl

/-! ### Reset, SetReg and GetReg -/

section registers
variable (s : State) (r : Reg) (v : BitVec r.width)

@[simp] theorem State.setReg_mem : (s.setReg r v).mem = s.mem := by cases r <;> rfl

@[simp] theorem State.setReg_run : (s.setReg r v).run = s.run := by cases r <;> rfl

theorem State.setReg_getReg (q : Reg) : (s.setReg r v).getReg q = if h : q = r then h ▸ v else s.getReg q := by
  cases r <;> cases q <;> rfl

end registers

/-- Settles O49: Reset takes memory from the state before it, and nothing else. -/
theorem resetValues : Obligations.ResetValues := fun _ _ _ _ _ _ _ => ⟨rfl, rfl, rfl, rfl, rfl, rfl⟩

/-- Settles O50, one field per register. -/
theorem hostReadsBackWhatItSets : Obligations.HostReadsBackWhatItSets := fun s r v =>
  ⟨(s.setReg_getReg r v r).trans (dif_pos rfl), s.setReg_mem r v, s.setReg_run r v,
    fun q hq => (s.setReg_getReg r v q).trans (dif_neg hq)⟩

end Sys2Proof.Machine
end
